-- ==== Sys2Proof/Word.lean ====
section
/-! DEFINITION. The word types of the links and of the stored numbers (11 R191, 01 R1). -/

namespace Sys2Proof

/-- One byte of a link or of a packet (11 R191). -/
abbrev Byte := BitVec 8

/-- A 16-bit number: counters, generation, bank checks (10 R186, 03 R36, 09 R165). -/
abbrev Word16 := BitVec 16

/-- A 32-bit number: calendar, shot number, the value of a SET (01 R1, 02 R30, 11 R195). -/
abbrev Word32 := BitVec 32

end Sys2Proof
end

