-- ==== Sys2Proof/Config.lean ====
section
/-! DEFINITION. The constants the manual fixes for every part. The manual leaves no result of a command open,
so no free value stands here. -/

namespace Sys2Proof.Config

/-- Seconds in a day (01 R2). -/
def secondsPerDay : Nat := 86400

/-- Milliseconds in a second of calendar time (01 R1). -/
def msPerSecond : Nat := 1000

/-- Places of a receive queue (11 R192). -/
def rxPlaces : Nat := 4

/-- The first places of a transmit line that requests wait for (11 R194). -/
def txPlaces : Nat := 8

/-- Packets the S-link line may hold while a notice is handed over (11 R193). -/
def slinkRoom : Nat := 3

/-- Largest payload of a packet (11 R191). -/
def maxPayload : Nat := 48

/-- The sync byte C3h (11 R191). -/
def syncByte : Byte := 0xC3

/-- Link gap timeout in ms (11 R192). -/
def gapMs : Nat := 2

/-- Relay reply limit in ms (04 R81). -/
def relayReplyMs : Nat := 1000

/-- One conversion in ms (08 R147). -/
def conversionMs : Nat := 4

/-- Release margin of the sag comparator in mV (08 R156). -/
def sagMargin : Nat := 100

/-- Largest ramp position of any ladder (03 R36). -/
def maxPosition : Nat := 1008

/-- Largest value of the module failure count (04 R67). -/
def maxFailures : Nat := 15

/-- An allowance of 255 means unlimited (08 R159). -/
def unlimitedAllowance : Nat := 255

end Sys2Proof.Config
end

