-- ==== Sys2Proof/Syntax.lean ====
section
/-! DEFINITION. The commands of the part: one constructor for each row of spec/opcode_table.json. The table gives
no row any operand; the operands here are what the row's rule says the event carries. -/

namespace Sys2Proof

/-- The two serial links (11): the P-link to the recorder, the S-link to the capture module. -/
inductive Link where
  | p
  | s
deriving DecidableEq, Repr

/-- The two active-low inputs whose rise is the row TRIG_OR_SERVICE_HIGH (10 R188). -/
inductive ActiveLowPin where
  | trig
  | service
deriving DecidableEq, Repr

/-- The commands. Numeric operands that travel in a packet have the width the packet gives them (11 R195). -/
inductive Instr where
  /-- COLD_START (R12). -/
  | coldStart
  /-- RESET_ENTRY (R11): the reset line falls or the supervisor trips. -/
  | resetEntry
  /-- WARM_RESET (R12): reset line high and supervisor clear are seen. -/
  | warmReset
  /-- POWER_BAD_ENTRY (R13): SUPOK is seen to fall. -/
  | powerBadEntry
  /-- POWER_BAD_RETURN (R13): SUPOK is seen to rise. -/
  | powerBadReturn
  /-- SECOND_TICK (R3): the millisecond edge that completes the second. -/
  | secondTick
  /-- TRIG_ACTIVE (R27): TRIG is seen low. -/
  | trigActive
  /-- SERVICE_ACTIVE (R108): SERVICE is seen low. -/
  | serviceActive
  /-- STROBE_RISE (R71). -/
  | strobeRise
  /-- SAG_TRIP (R157): the comparator is sampled with the given voltage at VBAT, in mV. -/
  | sagTrip (vbat : Nat)
  /-- REFRACTORY_EXPIRY (R28). -/
  | refractoryExpiry
  /-- BOOT_TIMER_EXPIRY (R64). -/
  | bootTimerExpiry
  /-- EXPOSURE_DEADLINE_EXPIRY (R73). -/
  | exposureDeadlineExpiry
  /-- DELIVERY_TIMER_EXPIRY (R79). -/
  | deliveryTimerExpiry
  /-- RELAY_REPLY_LIMIT_EXPIRY (R81). -/
  | relayReplyLimitExpiry
  /-- HELLO (R65). -/
  | hello
  /-- FRAME (R74): tag, shutter time and gain step the module used, and the three luminance facts. -/
  | frame (tag : Byte) (shutter : Word32) (gain mean clippedHigh clippedLow : Byte)
  /-- DELIVERED (R78). -/
  | delivered (tag : Byte)
  /-- UNDELIVERED (R79). -/
  | undelivered (tag : Byte)
  /-- FAULT (R66). -/
  | fault (code : Byte)
  /-- MODULE_RELAY (R83): a RELAY from the capture module. -/
  | moduleRelay (payload : List Byte)
  /-- READY (R110, R118). -/
  | ready
  /-- READY_TIMER_EXPIRY (R111). -/
  | readyTimerExpiry
  /-- AWAKE_TIMER_EXPIRY (R121). -/
  | awakeTimerExpiry
  /-- OFFER_TIMEOUT (R116). -/
  | offerTimeout
  /-- REST_TIMER_EXPIRY (R123). -/
  | restTimerExpiry
  /-- SLEEP (R119). -/
  | sleep
  /-- CLAIM (R114). -/
  | claim (tag : Byte)
  /-- WAIVE (R115). -/
  | waive (tag : Byte)
  /-- SET_CLOCK (R5). -/
  | setClock (value : Word32)
  /-- SET_DAY_OFFSET (R6); the value is read in two's complement. -/
  | setDayOffset (value : Word32)
  /-- SET_CAPACITY (R61). -/
  | setCapacity (value : Word32)
  /-- SET_CAPTURE_MODE (R129). -/
  | setCaptureMode (value : Word32)
  /-- SET_HEATER_MODE (R138). -/
  | setHeaterMode (value : Word32)
  /-- SET_SAG_ENABLE (R157). -/
  | setSagEnable (value : Word32)
  /-- SET_SAG_THRESHOLD (R156). -/
  | setSagThreshold (value : Word32)
  /-- SET_RAMP_POSITION (R58). -/
  | setRampPosition (value : Word32)
  /-- SET (R182) of the item with the given code. -/
  | set (item : Byte) (value : Word32)
  /-- GET (R183). -/
  | get (item : Byte)
  /-- CLEAR_COUNTERS (R185). -/
  | clearCounters
  /-- CLEAR_FLAGS (R185). -/
  | clearFlags
  /-- CLEAR_LATCH (R133). -/
  | clearLatch
  /-- QUERY (R189). -/
  | query
  /-- START (R16). -/
  | start
  /-- STOP (R17). -/
  | stop
  /-- SHOOT (R29), with the explicit rung position in sixteenths when given. -/
  | shoot (rung : Option Word16)
  /-- MEASURE (R152), with the channel set as its byte. -/
  | measure (channels : Byte)
  /-- RELAY (R82) from the recorder. -/
  | relay (payload : List Byte)
  /-- OPEN (R167). -/
  | openTable (table : Byte)
  /-- ROW (R168): table, row number and the bytes of the row fields. -/
  | row (table number : Byte) (fields : List Byte)
  /-- CLOSE (R170). -/
  | close (count : Byte) (check : Word16)
  /-- COMMIT (R173): table set and point as their bytes. -/
  | commit (tables point : Byte)
  /-- MEASURE_PERIOD_EXPIRY (R151). -/
  | measurePeriodExpiry
  /-- CONVERSION_COMPLETE (R150): the quantity at the converter's input, in mV or tenths of a degree. -/
  | conversionComplete (quantity : Int)
  /-- BLANKING_WINDOW_EXPIRY (R155). -/
  | blankingWindowExpiry
  /-- HEATER_PERIOD_EXPIRY (R137). -/
  | heaterPeriodExpiry
  /-- HEATER_ON_PHASE_EXPIRY (R137). -/
  | heaterOnPhaseExpiry
  /-- PACKET_RECEIVED (R192): a whole packet's bytes after the sync byte, its length being the payload's. -/
  | packetReceived (link : Link) (kind : Byte) (payload : List Byte) (check : Byte)
  /-- LINK_GAP_TIMEOUT (R192). -/
  | linkGapTimeout (link : Link)
  /-- TRANSMISSION_COMPLETE (R194). -/
  | transmissionComplete (link : Link)
  /-- MILLISECOND_EDGE (R1): a millisecond edge that completes no second. -/
  | millisecondEdge
  /-- BYTE_RECEIVED (R192): one byte, and whether its stop bit was seen. -/
  | byteReceived (link : Link) (byte : Byte) (stopBit : Bool)
  /-- COMPARATOR_LEVEL_CHANGE (R156): the comparator is sampled with the given voltage at VBAT, in mV. -/
  | comparatorLevelChange (vbat : Nat)
  /-- TRIG_OR_SERVICE_HIGH (R188): the named input is seen high. -/
  | trigOrServiceHigh (pin : ActiveLowPin)
  /-- SUPOK_CHANGE_IN_RESET (R11). -/
  | supokChangeInReset
  /-- CLEAR (R185) of the group with the given code. -/
  | clear (group : Byte)
deriving DecidableEq, Repr

end Sys2Proof
end

