-- ==== Sys2Proof/Decode.lean ====
section
/-! DEFINITION. Command words. spec/opcode_table.json gives no row any bits (98_reader.md: no row with fixed bits,
no row with fields), so no word spells a command. The packets that carry commands over the links are read in
Sys2Proof.Machine.Packets. -/

namespace Sys2Proof

/-- The command that a word spells by the table's bits: none, since no row has bits. -/
def decodeTableWord (_nbits _w : Nat) : Option Instr := none

end Sys2Proof
end

