-- ==== Sys2Proof/Machine/State.lean ====
section
/-! DEFINITION. The state of the part, block by block (00_scope, Block overview), and the state after cold start.
Plain data: no function stands in it. -/

namespace Sys2Proof.Machine

/-! ### Why a step can stop -/

/-- The part never stops (every event of the manual has an effect, an answer, a discard or a count), so there is
no fault. -/
inductive Fault : Type
deriving DecidableEq, Repr

/-- Commands without a meaning. No arm of `exec` uses it: every command has its meaning. -/
inductive Refusal where
  /-- A command that the model gives no meaning, raised by its arm of `exec`; safe. -/
  | notModelled (mnemonic : String)
deriving DecidableEq, Repr

/-! ### Time Base -/

/-- A timeout on the millisecond stream (01 R8). `running n` expires after `n` more millisecond edges;
`running 0` is due. -/
inductive Timer where
  | idle
  | running (edges : Nat)
deriving DecidableEq, Repr

/-- The supply-domain state (01 R11). -/
inductive Domain where
  | reset
  | run
  | powerBad
deriving DecidableEq, Repr

/-- The Time Base (01, table of its state). -/
structure TimeBase where
  /-- Calendar seconds; wraps after 4,294,967,295 (01 R7). -/
  calendar : Word32
  /-- Millisecond phase, 0–999 (01 R1). -/
  phase : Nat
  /-- Day offset in seconds (01 R6). -/
  dayOffset : Int
  /-- Supply-domain state (01 R11). -/
  domain : Domain
deriving DecidableEq, Repr

/-- A stamp: calendar second and millisecond phase (01 R9). -/
structure Stamp where
  second : Word32
  ms : Nat
deriving DecidableEq, Repr

/-! ### Shot Scheduler -/

/-- The scheduler state (02 R14). -/
inductive SchedState where
  | stopped
  | running
deriving DecidableEq, Repr

/-- The kind of a pending shot (02 R14). -/
inductive PendingKind where
  | scheduled
  | event
  | manual
deriving DecidableEq, Repr

/-- A pending shot (02 R14). -/
structure PendingShot where
  kind : PendingKind
  /-- Calendar second at which it fell due. -/
  fellDue : Word32
  /-- Explicit rung position of a MANUAL shot, when SHOOT gave one. -/
  rung : Option Nat
deriving DecidableEq, Repr

/-- The Shot Scheduler (02 R14). -/
structure Scheduler where
  state : SchedState
  /-- Row of the active window table, present only while RUNNING. -/
  window : Option Nat
  elapsed : Nat
  slot : Option PendingShot
  refractory : Timer
  /-- The next shot number to be given (02 R30). -/
  nextNumber : Word32
deriving DecidableEq, Repr

/-! ### Ramp Unit -/

/-- The Ramp Unit (03 R36). -/
structure Ramp where
  position : Nat
  generation : Word16
  lastCorrection : Int
deriving DecidableEq, Repr

/-! ### Shot Queue -/

/-- Role of a shot (04 R59). -/
inductive Role where
  | center
  | member
  | event
  | manual
deriving DecidableEq, Repr

/-- The exposure a record carries (03 R38). -/
structure Exposure where
  position : Nat
  /-- Shutter time in microseconds. -/
  shutter : Nat
  gain : Nat
deriving DecidableEq, Repr

/-- The frame facts (04 R59). -/
structure Facts where
  mean : Byte
  clippedHigh : Byte
  clippedLow : Byte
deriving DecidableEq, Repr

/-- Window and program index of a record made while RUNNING (04 R59). -/
structure Indices where
  window : Nat
  program : Nat
deriving DecidableEq, Repr

/-- State of a shot record (04 R60). -/
inductive RecState where
  | ordered
  | held
  | offered
  | releasing
deriving DecidableEq, Repr

/-- A shot record (04 R59). Its tag is the low byte of its number. -/
structure ShotRecord where
  number : Word32
  role : Role
  offset : Option Int
  indices : Option Indices
  generation : Option Word16
  exposure : Exposure
  orderedAt : Stamp
  strobe : Option Stamp
  facts : Option Facts
  heldSince : Option Word32
  /-- Delivery failures, 0 or 1. -/
  failures : Nat
  state : RecState
deriving DecidableEq, Repr

/-- The capture module state (04 R63). -/
inductive ModuleState where
  | unpowered
  | booting
  | ready
deriving DecidableEq, Repr

/-- The relay state (04 R81). -/
inductive RelayState where
  | idle
  | inProgress
deriving DecidableEq, Repr

/-- The Shot Queue (04 R84). -/
structure ShotQueue where
  /-- The records in order of creation, oldest first (04 R61). -/
  records : List ShotRecord
  module : ModuleState
  /-- Module failure count, 0–15 (04 R67). -/
  failures : Nat
  faultCode : Option Byte
  bootTimer : Timer
  /-- Deadline of the watched record, the oldest ORDERED one (04 R72). -/
  deadline : Timer
  deliveryTimer : Timer
  relay : RelayState
  relayLimit : Timer
deriving DecidableEq, Repr

/-! ### Retention Unit -/

/-- The Retention Unit (05 R86). -/
structure Retention where
  /-- One counter for each row of the active retention bank. -/
  decimation : List Nat
  lastKeptCenter : Option Byte
deriving DecidableEq, Repr

/-! ### Session Controller -/

/-- The session state (06 R105). -/
inductive SessionState where
  | off
  | waking
  | awake
  | closing
deriving DecidableEq, Repr

/-- The Session Controller (06 R105). -/
structure Session where
  state : SessionState
  wakesToday : Word16
  readyTimer : Timer
  awakeTimer : Timer
  offerTimer : Timer
  restTimer : Timer
  offerSent : Bool
  /-- Consecutive offer timeouts. -/
  timeouts : Nat
deriving DecidableEq, Repr

/-! ### Rail Controller -/

/-- The Rail Controller (07 R125). -/
structure Rails where
  capture : Bool
  recorder : Bool
  heater : Bool
  /-- Capture automatic demand (07 R128). -/
  demand : Bool
  cycleHold : Bool
  /-- Warm-up demand as last presented by the Scheduler (02 R26, 07 R131). -/
  warmUp : Bool
  /-- Time to the next scheduled shot as last presented (02 R26, 07 R127). -/
  timeToNext : Option Int
  heaterPeriod : Timer
  heaterOnPhase : Timer
  /-- In on-phase (07 R137). -/
  phaseOn : Bool
  /-- Duty taken at the start of the running period (07 R126, R137). -/
  periodDuty : Nat
  moduleLatch : Bool
  band : Option Nat
deriving DecidableEq, Repr

/-! ### Measurement Unit -/

/-- The converter's channels (08 R147). -/
inductive Channel where
  | battery
  | temperature
  | aux
deriving DecidableEq, Repr

/-- The request set (08 R148): true is pending. -/
structure Requests where
  battery : Bool
  temperature : Bool
  aux : Bool
deriving DecidableEq, Repr

/-- The energy tier (08 R146). -/
inductive Tier where
  | unset
  | full
  | normal
  | lean
  | critical
deriving DecidableEq, Repr

/-- The Measurement Unit (08 R146). -/
structure Measurement where
  converting : Option Channel
  conversion : Timer
  requests : Requests
  measurePeriod : Timer
  /-- The blanking window is open while this runs (08 R153). -/
  blanking : Timer
  sagLatch : Bool
  lastBattery : Option Nat
  lastTemperature : Option Int
  lastAux : Option Nat
  tier : Tier
  /-- Comparator level as last sampled: true is tripped (08 R156). -/
  tripped : Bool
deriving DecidableEq, Repr

/-! ### Tables -/

/-- The seven tables (09 R165). -/
inductive Table where
  | window
  | program
  | ladder
  | correction
  | retention
  | tier
  | thermal
deriving DecidableEq, Repr

/-- A window row (02, section 2.2). -/
structure WindowRow where
  start : Nat
  interval : Nat
  program : Nat
  shootAtStart : Bool
  events : Bool
deriving DecidableEq, Repr

/-- Ramp mode (03, section 3.3). -/
inductive RampMode where
  | metered
  | timed
  | fixed
deriving DecidableEq, Repr

/-- A program row (03, section 3.3). -/
structure ProgramRow where
  mode : RampMode
  target : Nat
  deadBand : Nat
  slew : Nat
  floor : Nat
  ceiling : Nat
  clipLimit : Nat
  bracketCount : Nat
  spacing : Nat
  timedStart : Nat
  timedEnd : Nat
  fixedRung : Nat
deriving DecidableEq, Repr

/-- A rung of the ladder (03, section 3.2). -/
structure Rung where
  shutter : Nat
  gain : Nat
deriving DecidableEq, Repr

/-- A correction row (03 R40). -/
structure CorrectionRow where
  bound : Int
  correction : Int
deriving DecidableEq, Repr

/-- Change test of a retention row (05 R91). -/
inductive ChangeTest where
  | any
  | changed
  | unchanged
deriving DecidableEq, Repr

/-- Action of a retention row (05 R92, R93). -/
inductive RetentionAction where
  | keep
  | drop
  | keepEvery
deriving DecidableEq, Repr

/-- A retention row (05 R87). Sets are lists in code order without repeats. -/
structure RetentionRow where
  roles : List Role
  meanLow : Nat
  meanHigh : Nat
  tiers : List Tier
  change : ChangeTest
  delta : Nat
  action : RetentionAction
  every : Nat
deriving DecidableEq, Repr

/-- Stretch of a tier row (08 R159). -/
inductive Stretch where
  | x1
  | x2
  | x4
  | x8
  | suspend
deriving DecidableEq, Repr

/-- A tier row (08 R159). -/
structure TierRow where
  threshold : Nat
  hysteresis : Nat
  stretch : Stretch
  batch : Nat
  holdLimit : Nat
  allowance : Nat
  heaterAllowed : Bool
deriving DecidableEq, Repr

/-- A thermal row (07 R135). -/
structure ThermalRow where
  bound : Int
  duty : Nat
  capturePermitted : Bool
deriving DecidableEq, Repr

/-- A table bank (09 R165): EMPTY (`valid = false`) or VALID. The staged bank of an open transaction stays EMPTY
while the rows received so far stand in `rows` (09 R166). -/
structure Bank (α : Type) where
  valid : Bool
  rows : List α
  check : Word16
deriving DecidableEq, Repr

/-- The two banks of a table (09 R165). -/
structure BankPair (α : Type) where
  active : Bank α
  staged : Bank α
deriving DecidableEq, Repr

/-- An open load transaction (09 R166). -/
structure Transaction where
  table : Table
  expected : Nat
  received : Nat
  sum : Word16
deriving DecidableEq, Repr

/-- Swap point of a commit (09 R173). -/
inductive CommitPoint where
  | atOnce
  | nextShot
  | nextWindow
deriving DecidableEq, Repr

/-- A pending commit (09 R175). The set is a list in table-code order without repeats. -/
structure PendingCommit where
  tables : List Table
  point : CommitPoint
deriving DecidableEq, Repr

/-- The Table Store (09). -/
structure TableStore where
  window : BankPair WindowRow
  program : BankPair ProgramRow
  ladder : BankPair Rung
  correction : BankPair CorrectionRow
  retention : BankPair RetentionRow
  tier : BankPair TierRow
  thermal : BankPair ThermalRow
  load : Option Transaction
  commit : Option PendingCommit
deriving DecidableEq, Repr

/-! ### Request Handler -/

/-- Manual mode of an output (07 R129, R138). -/
inductive Mode where
  | auto
  | on
  | off
deriving DecidableEq, Repr

/-- SAG MODE (08 R158). -/
inductive SagMode where
  | cycle
  | latched
deriving DecidableEq, Repr

/-- The six kinds of output edge (07 R141). -/
inductive EdgeKind where
  | captureOn
  | captureOff
  | recorderOn
  | recorderOff
  | heaterOn
  | heaterOff
deriving DecidableEq, Repr

/-- The settings (10, section 10.2) but CLOCK, DAY OFFSET and RAMP POSITION, which have their home elsewhere. -/
structure Settings where
  capacity : Nat
  warmUp : Nat
  keepWarm : Nat
  bootLimit : Nat
  exposureAllowance : Nat
  faultLimit : Nat
  deliveryTimeout : Nat
  offerWindow : Nat
  readyTimeout : Nat
  awakeLimit : Nat
  restSpan : Nat
  refractory : Nat
  triggerEnable : Bool
  serviceEnable : Bool
  captureMode : Mode
  heaterMode : Mode
  blankLength : Nat
  blankEdges : List EdgeKind
  sagThreshold : Nat
  sagEnable : Bool
  sagMode : SagMode
  measurePeriod : Nat
  heaterPeriod : Nat
  autorun : Bool
deriving DecidableEq, Repr

/-- The names of the twenty-seven counters (10 R186), in the order of STATUS parts 3 and 4 (11 R196). -/
inductive Counter where
  | skippedBufferFull
  | skippedLate
  | skippedModule
  | skippedSuspended
  | skippedProtected
  | skippedPower
  | skippedStopped
  | staleReport
  | lost
  | delivered
  | waived
  | strayFrame
  | strayStrobe
  | strayDelivery
  | strayNotice
  | kept
  | ruleDropped
  | serviceWakes
  | noShows
  | forcedSleeps
  | outOfSession
  | sagTrips
  | spoiledConversions
  | pBadPackets
  | sBadPackets
  | pOverruns
  | sOverruns
deriving DecidableEq, Repr

/-- The twenty-seven counters (10 R186). -/
structure Counters where
  skippedBufferFull : Word16
  skippedLate : Word16
  skippedModule : Word16
  skippedSuspended : Word16
  skippedProtected : Word16
  skippedPower : Word16
  skippedStopped : Word16
  staleReport : Word16
  lost : Word16
  delivered : Word16
  waived : Word16
  strayFrame : Word16
  strayStrobe : Word16
  strayDelivery : Word16
  strayNotice : Word16
  kept : Word16
  ruleDropped : Word16
  serviceWakes : Word16
  noShows : Word16
  forcedSleeps : Word16
  outOfSession : Word16
  sagTrips : Word16
  spoiledConversions : Word16
  pBadPackets : Word16
  sBadPackets : Word16
  pOverruns : Word16
  sOverruns : Word16
deriving DecidableEq, Repr

/-- The six sticky flags (10 R187). -/
structure StickyFlags where
  sag : Bool
  offerTimeout : Bool
  forcedSleep : Bool
  noShow : Bool
  moduleRestart : Bool
  badPacket : Bool
deriving DecidableEq, Repr

/-- The three input change flags (10 R188). -/
structure InputFlags where
  trig : Bool
  service : Bool
  supok : Bool
deriving DecidableEq, Repr

/-! ### Link Ports -/

/-- A packet: kind and payload; sync, length and check bytes follow from them (11 R191). -/
structure Packet where
  kind : Byte
  payload : List Byte
deriving DecidableEq, Repr

/-- A receiver (11 R192): hunting, or assembling with the bytes taken since the sync byte. -/
inductive Receiver where
  | hunting
  | assembling (bytes : List Byte)
deriving DecidableEq, Repr

/-- A link port (11). -/
structure Port where
  receiver : Receiver
  gap : Timer
  /-- Receive queue, head first (11 R192). -/
  rx : List Packet
  /-- Transmit line, head first; the head is the packet being sent (11 R194). -/
  tx : List Packet
deriving DecidableEq, Repr

/-- Levels of the logic inputs as last seen: true is high. -/
structure Pins where
  trig : Bool
  service : Bool
  supok : Bool
deriving DecidableEq, Repr

/-! ### The whole part -/

/-- The state of the part. -/
structure State where
  time : TimeBase
  sched : Scheduler
  ramp : Ramp
  queue : ShotQueue
  retention : Retention
  session : Session
  rails : Rails
  meas : Measurement
  store : TableStore
  settings : Settings
  counters : Counters
  flags : StickyFlags
  inputs : InputFlags
  plink : Port
  slink : Port
  pins : Pins
  /-- The commands that wait, first in first out (the model's interface). -/
  pending : List Instr
deriving DecidableEq, Repr

/-! ### Cold start -/

/-- An EMPTY bank (09 R165). -/
def Bank.empty (α : Type) : Bank α := ⟨false, [], 0⟩

/-- Both banks EMPTY. -/
def BankPair.empty (α : Type) : BankPair α := ⟨Bank.empty α, Bank.empty α⟩

/-- All counters 0 (10 R186). -/
def Counters.zero : Counters :=
  ⟨0, 0, 0, 0, 0, 0, 0, 0, 0, 0, 0, 0, 0, 0, 0, 0, 0, 0, 0, 0, 0, 0, 0, 0, 0, 0, 0⟩

/-- No sticky flag set (10 R187). -/
def StickyFlags.clear : StickyFlags := ⟨false, false, false, false, false, false⟩

/-- No input change flag set (10 R188). -/
def InputFlags.clear : InputFlags := ⟨false, false, false⟩

/-- The defaults of the settings (10, section 10.2). -/
def Settings.default : Settings where
  capacity := 4
  warmUp := 3
  keepWarm := 30
  bootLimit := 2000
  exposureAllowance := 500
  faultLimit := 3
  deliveryTimeout := 30
  offerWindow := 2000
  readyTimeout := 20
  awakeLimit := 600
  restSpan := 60
  refractory := 10
  triggerEnable := false
  serviceEnable := true
  captureMode := .auto
  heaterMode := .auto
  blankLength := 50
  blankEdges := [.captureOn, .recorderOn, .heaterOn]
  sagThreshold := 6000
  sagEnable := true
  sagMode := .cycle
  measurePeriod := 300
  heaterPeriod := 20
  autorun := false

/-- No channel pending (08 R146). -/
def Requests.none : Requests := ⟨false, false, false⟩

/-- A link port at rest: receiver hunting, both queues empty (11 R192, R194). -/
def Port.cleared : Port := ⟨.hunting, .idle, [], []⟩

/-- The Session Controller's cold-start values (06 R105). -/
def Session.cold : Session :=
  ⟨.off, 0, .idle, .idle, .idle, .idle, false, 0⟩

/-- The Rail Controller's cold-start values (07 R125); the presented values absent and the period's duty 0
(log 10, log 24). -/
def Rails.cold : Rails where
  capture := false
  recorder := false
  heater := false
  demand := false
  cycleHold := false
  warmUp := false
  timeToNext := none
  heaterPeriod := .idle
  heaterOnPhase := .idle
  phaseOn := false
  periodDuty := 0
  moduleLatch := false
  band := none

/-- The part right after cold start (01 R12): the Time Base at calendar 0 in RESET, every item at its cold-start
default. The input levels are the model's choice (log 5, log 6). -/
def State.reset : State where
  time := ⟨0, 0, 0, .reset⟩
  sched := ⟨.stopped, none, 0, none, .idle, 0⟩
  ramp := ⟨0, 0, 0⟩
  queue := ⟨[], .unpowered, 0, none, .idle, .idle, .idle, .idle, .idle⟩
  retention := ⟨[], none⟩
  session := Session.cold
  rails := Rails.cold
  meas := ⟨none, .idle, Requests.none, .idle, .idle, false, none, none, none, .unset, false⟩
  store := ⟨BankPair.empty _, BankPair.empty _, BankPair.empty _, BankPair.empty _, BankPair.empty _,
    BankPair.empty _, BankPair.empty _, none, none⟩
  settings := Settings.default
  counters := Counters.zero
  flags := StickyFlags.clear
  inputs := InputFlags.clear
  plink := Port.cleared
  slink := Port.cleared
  pins := ⟨true, true, true⟩
  pending := []

/-- What a command answers in this model. -/
abbrev StepResult := Host.Outcome State Fault Refusal

end Sys2Proof.Machine
end

