-- ==== Sys2Proof/Machine/Flags.lean ====
section
/-! DEFINITION. Counters, sticky flags and input change flags (10, section 10.4). -/

namespace Sys2Proof.Machine

/-- One count: a counter that stands at 65,535 stays there (10 R186). -/
def satInc (c : Word16) : Word16 := if c = 0xFFFF then c else c + 1

/-- `n` counts in one event (10 R186). -/
def satAdd (c : Word16) (n : Nat) : Word16 := BitVec.ofNat 16 (min 65535 (c.toNat + n))

/-- The value of one counter. -/
def Counters.value (cs : Counters) : Counter → Word16
  | .skippedBufferFull => cs.skippedBufferFull
  | .skippedLate => cs.skippedLate
  | .skippedModule => cs.skippedModule
  | .skippedSuspended => cs.skippedSuspended
  | .skippedProtected => cs.skippedProtected
  | .skippedPower => cs.skippedPower
  | .skippedStopped => cs.skippedStopped
  | .staleReport => cs.staleReport
  | .lost => cs.lost
  | .delivered => cs.delivered
  | .waived => cs.waived
  | .strayFrame => cs.strayFrame
  | .strayStrobe => cs.strayStrobe
  | .strayDelivery => cs.strayDelivery
  | .strayNotice => cs.strayNotice
  | .kept => cs.kept
  | .ruleDropped => cs.ruleDropped
  | .serviceWakes => cs.serviceWakes
  | .noShows => cs.noShows
  | .forcedSleeps => cs.forcedSleeps
  | .outOfSession => cs.outOfSession
  | .sagTrips => cs.sagTrips
  | .spoiledConversions => cs.spoiledConversions
  | .pBadPackets => cs.pBadPackets
  | .sBadPackets => cs.sBadPackets
  | .pOverruns => cs.pOverruns
  | .sOverruns => cs.sOverruns

/-- One counter replaced. -/
def Counters.put (cs : Counters) (k : Counter) (v : Word16) : Counters :=
  match k with
  | .skippedBufferFull => { cs with skippedBufferFull := v }
  | .skippedLate => { cs with skippedLate := v }
  | .skippedModule => { cs with skippedModule := v }
  | .skippedSuspended => { cs with skippedSuspended := v }
  | .skippedProtected => { cs with skippedProtected := v }
  | .skippedPower => { cs with skippedPower := v }
  | .skippedStopped => { cs with skippedStopped := v }
  | .staleReport => { cs with staleReport := v }
  | .lost => { cs with lost := v }
  | .delivered => { cs with delivered := v }
  | .waived => { cs with waived := v }
  | .strayFrame => { cs with strayFrame := v }
  | .strayStrobe => { cs with strayStrobe := v }
  | .strayDelivery => { cs with strayDelivery := v }
  | .strayNotice => { cs with strayNotice := v }
  | .kept => { cs with kept := v }
  | .ruleDropped => { cs with ruleDropped := v }
  | .serviceWakes => { cs with serviceWakes := v }
  | .noShows => { cs with noShows := v }
  | .forcedSleeps => { cs with forcedSleeps := v }
  | .outOfSession => { cs with outOfSession := v }
  | .sagTrips => { cs with sagTrips := v }
  | .spoiledConversions => { cs with spoiledConversions := v }
  | .pBadPackets => { cs with pBadPackets := v }
  | .sBadPackets => { cs with sBadPackets := v }
  | .pOverruns => { cs with pOverruns := v }
  | .sOverruns => { cs with sOverruns := v }

/-- The named counter counts one (10 R186). -/
def State.count (k : Counter) (s : State) : State :=
  { s with counters := s.counters.put k (satInc (s.counters.value k)) }

/-- The named counter counts `n` times in one event (04 R65, R68: each record counted lost). -/
def State.countMany (k : Counter) (n : Nat) (s : State) : State :=
  { s with counters := s.counters.put k (satAdd (s.counters.value k) n) }

/-- The counters in the order of STATUS parts 3 and 4 (11 R196). -/
def Counters.part3 : List Counter :=
  [.skippedBufferFull, .skippedLate, .skippedModule, .skippedSuspended, .skippedProtected, .skippedPower,
   .skippedStopped, .staleReport, .lost, .delivered, .waived, .strayFrame, .strayStrobe, .strayDelivery]

/-- See `Counters.part3`. -/
def Counters.part4 : List Counter :=
  [.strayNotice, .kept, .ruleDropped, .serviceWakes, .noShows, .forcedSleeps, .outOfSession, .sagTrips,
   .spoiledConversions, .pBadPackets, .sBadPackets, .pOverruns, .sOverruns]

/-- Reasons for which a shot is skipped (02 R31). -/
inductive SkipReason where
  | bufferFull
  | late
  | module
  | suspended
  | protection
  | power
  | stopped
deriving DecidableEq, Repr

/-- The counter of a skip reason (02 R31). -/
def SkipReason.counter : SkipReason → Counter
  | .bufferFull => .skippedBufferFull
  | .late => .skippedLate
  | .module => .skippedModule
  | .suspended => .skippedSuspended
  | .protection => .skippedProtected
  | .power => .skippedPower
  | .stopped => .skippedStopped

/-- A shot is counted skipped (02 R31). -/
def State.skip (r : SkipReason) (s : State) : State := s.count r.counter

/-- The sticky flag SAG is set (08 R157). -/
def State.flagSag (s : State) : State := { s with flags := { s.flags with sag := true } }

/-- The sticky flag OFFER TIMEOUT is set (06 R116). -/
def State.flagOfferTimeout (s : State) : State := { s with flags := { s.flags with offerTimeout := true } }

/-- The sticky flag FORCED SLEEP is set (06 R121). -/
def State.flagForcedSleep (s : State) : State := { s with flags := { s.flags with forcedSleep := true } }

/-- The sticky flag NO-SHOW is set (06 R111). -/
def State.flagNoShow (s : State) : State := { s with flags := { s.flags with noShow := true } }

/-- The sticky flag MODULE RESTART is set (04 R65). -/
def State.flagModuleRestart (s : State) : State := { s with flags := { s.flags with moduleRestart := true } }

/-- The sticky flag BAD PACKET is set (11 R192). -/
def State.flagBadPacket (s : State) : State := { s with flags := { s.flags with badPacket := true } }

/-- The six sticky flags as the byte of STATUS part 1 (11 R196). -/
def StickyFlags.byte (f : StickyFlags) : Nat :=
  f.sag.toNat + 2 * f.offerTimeout.toNat + 4 * f.forcedSleep.toNat + 8 * f.noShow.toNat
    + 16 * f.moduleRestart.toNat + 32 * f.badPacket.toNat

/-- The three input change flags as the byte of STATUS part 1 (11 R196). -/
def InputFlags.byte (f : InputFlags) : Nat :=
  f.trig.toNat + 2 * f.service.toNat + 4 * f.supok.toNat

end Sys2Proof.Machine
end

