-- ==== Sys2Proof/Machine/Operands.lean ====
section
/-! DEFINITION. The forms in which values travel in packets: multi-byte fields (11 R191), the codes of 11 R195,
set fields, the settings items with their ranges (10, section 10.2), and the rows of the seven tables with their
value checks (09 R169, 11 R197). -/

namespace Sys2Proof.Machine

/-! ### Bytes -/

/-- The low byte of a number. -/
def byteOf (n : Nat) : Byte := BitVec.ofNat 8 n

/-- `k` bytes of a number, most significant first (11 R191). -/
def bytesBE : Nat → Nat → List Byte
  | 0, _ => []
  | k + 1, n => byteOf (n / 256 ^ k) :: bytesBE k n

/-- The number that bytes spell, most significant first (11 R191). -/
def natBE (bs : List Byte) : Nat := bs.foldl (fun n b => n * 256 + b.toNat) 0

/-- `k` bytes of a number in two's complement (11 R191). -/
def intBE (k : Nat) (i : Int) : List Byte := bytesBE k (i % (256 ^ k : Nat)).toNat

/-- The number that two bytes spell in two's complement (11 R191). -/
def signed16 (hi lo : Byte) : Int := (BitVec.ofNat 16 (hi.toNat * 256 + lo.toNat)).toInt

/-- The number that one byte spells in two's complement (11 R191). -/
def signed8 (b : Byte) : Int := b.toInt

/-! ### Codes (11 R195) -/

/-- Results of an ANSWER (10 R181). -/
inductive AnswerCode where
  | ok
  | busy
  | notReady
  | full
  | protection
  | badItem
  | badValue
  | badSequence
  | checkFailed
  | stale
deriving DecidableEq, Repr

def AnswerCode.code : AnswerCode → Nat
  | .ok => 0
  | .busy => 1
  | .notReady => 2
  | .full => 3
  | .protection => 4
  | .badItem => 5
  | .badValue => 6
  | .badSequence => 7
  | .checkFailed => 8
  | .stale => 9

def Role.code : Role → Nat
  | .center => 0
  | .member => 1
  | .event => 2
  | .manual => 3

def Tier.code : Tier → Nat
  | .unset => 0
  | .full => 1
  | .normal => 2
  | .lean => 3
  | .critical => 4

/-- Row of the tier table (08, section 8.6): FULL 0 to CRITICAL 3, none while UNSET. -/
def Tier.row : Tier → Option Nat
  | .unset => none
  | .full => some 0
  | .normal => some 1
  | .lean => some 2
  | .critical => some 3

/-- The tier a row of the tier table stands for. -/
def Tier.ofRow : Nat → Tier
  | 0 => .full
  | 1 => .normal
  | 2 => .lean
  | _ => .critical

/-- All tables in code order. -/
def Table.all : List Table :=
  [.window, .program, .ladder, .correction, .retention, .tier, .thermal]

def Table.code : Table → Nat
  | .window => 0
  | .program => 1
  | .ladder => 2
  | .correction => 3
  | .retention => 4
  | .tier => 5
  | .thermal => 6

/-- The table a code names (11 R195). -/
def Table.ofCode (c : Nat) : Option Table := Table.all[c]?

/-- Row capacity (09 R165). -/
def Table.capacity : Table → Nat
  | .window => 16
  | .program => 8
  | .ladder => 64
  | .correction => 16
  | .retention => 16
  | .tier => 4
  | .thermal => 8

def EdgeKind.all : List EdgeKind :=
  [.captureOn, .captureOff, .recorderOn, .recorderOff, .heaterOn, .heaterOff]

def EdgeKind.code : EdgeKind → Nat
  | .captureOn => 0
  | .captureOff => 1
  | .recorderOn => 2
  | .recorderOff => 3
  | .heaterOn => 4
  | .heaterOff => 5

def Role.all : List Role := [.center, .member, .event, .manual]

/-- The tiers that a set may name, FULL bit 0 to CRITICAL bit 3. -/
def Tier.named : List Tier := [.full, .normal, .lean, .critical]

def Channel.code : Channel → Nat
  | .battery => 0
  | .temperature => 1
  | .aux => 2

def Mode.code : Mode → Nat
  | .auto => 0
  | .on => 1
  | .off => 2

def Mode.ofCode : Nat → Option Mode
  | 0 => some .auto
  | 1 => some .on
  | 2 => some .off
  | _ => none

def SagMode.code : SagMode → Nat
  | .cycle => 0
  | .latched => 1

def CommitPoint.code : CommitPoint → Nat
  | .atOnce => 0
  | .nextShot => 1
  | .nextWindow => 2

def CommitPoint.ofCode : Nat → Option CommitPoint
  | 0 => some .atOnce
  | 1 => some .nextShot
  | 2 => some .nextWindow
  | _ => none

def PendingKind.code : PendingKind → Nat
  | .scheduled => 0
  | .event => 1
  | .manual => 2

def SchedState.code : SchedState → Nat
  | .stopped => 0
  | .running => 1

def ModuleState.code : ModuleState → Nat
  | .unpowered => 0
  | .booting => 1
  | .ready => 2

def SessionState.code : SessionState → Nat
  | .off => 0
  | .waking => 1
  | .awake => 2
  | .closing => 3

def RelayState.code : RelayState → Nat
  | .idle => 0
  | .inProgress => 1

def RampMode.ofCode : Nat → Option RampMode
  | 0 => some .metered
  | 1 => some .timed
  | 2 => some .fixed
  | _ => none

def ChangeTest.ofCode : Nat → Option ChangeTest
  | 0 => some .any
  | 1 => some .changed
  | 2 => some .unchanged
  | _ => none

def RetentionAction.ofCode : Nat → Option RetentionAction
  | 0 => some .keep
  | 1 => some .drop
  | 2 => some .keepEvery
  | _ => none

def Stretch.ofCode : Nat → Option Stretch
  | 0 => some .x1
  | 1 => some .x2
  | 2 => some .x4
  | 3 => some .x8
  | 4 => some .suspend
  | _ => none

/-- A yes/no field (11 R195). -/
def yesNo : Nat → Option Bool
  | 0 => some false
  | 1 => some true
  | _ => none

/-- The members of `names` whose bit is set; the bit of a name is its place in the list (11 R195). -/
def namesOfBits {α : Type} : List α → Nat → List α
  | [], _ => []
  | a :: as, b => if b % 2 = 1 then a :: namesOfBits as (b / 2) else namesOfBits as (b / 2)

/-- A set field (11 R195): none when a bit above the list is set. -/
def setField {α : Type} (names : List α) (b : Nat) : Option (List α) :=
  if b < 2 ^ names.length then some (namesOfBits names b) else none

/-- A set field that may not be empty (09 R169). -/
def nonemptySet {α : Type} (names : List α) (b : Nat) : Option (List α) :=
  if b = 0 then none else setField names b

/-- The number whose bits stand for the members of a list. -/
def bitsOf {α : Type} (code : α → Nat) (members : List α) : Nat :=
  members.foldl (fun n a => n + 2 ^ code a) 0

/-! ### Settings items (10, section 10.2) -/

/-- The twenty-seven settings items in code order. -/
inductive Item where
  | clock
  | dayOffset
  | capacity
  | warmUp
  | keepWarm
  | bootLimit
  | exposureAllowance
  | faultLimit
  | deliveryTimeout
  | offerWindow
  | readyTimeout
  | awakeLimit
  | restSpan
  | refractory
  | triggerEnable
  | serviceEnable
  | captureMode
  | heaterMode
  | blankLength
  | blankEdges
  | sagThreshold
  | sagEnable
  | sagMode
  | measurePeriod
  | heaterPeriod
  | autorun
  | rampPosition
deriving DecidableEq, Repr

def Item.all : List Item :=
  [.clock, .dayOffset, .capacity, .warmUp, .keepWarm, .bootLimit, .exposureAllowance, .faultLimit,
   .deliveryTimeout, .offerWindow, .readyTimeout, .awakeLimit, .restSpan, .refractory, .triggerEnable,
   .serviceEnable, .captureMode, .heaterMode, .blankLength, .blankEdges, .sagThreshold, .sagEnable, .sagMode,
   .measurePeriod, .heaterPeriod, .autorun, .rampPosition]

/-- The item a code names (11 R195). -/
def Item.ofCode (b : Byte) : Option Item := Item.all[b.toNat]?

/-- Codes of the items that have a command of their own (spec/opcode_table.json). -/
def Item.ownCommand : List Byte := [0, 1, 2, 16, 17, 20, 21, 26]

/-- Whether a value lies in the item's range (10, section 10.2). -/
def Item.inRange (i : Item) (v : Word32) : Bool :=
  let n := v.toNat
  match i with
  | .clock => true
  | .dayOffset => decide (-50400 ≤ v.toInt) && decide (v.toInt ≤ 50400)
  | .capacity => decide (1 ≤ n) && decide (n ≤ 8)
  | .warmUp => decide (n ≤ 255)
  | .keepWarm => decide (n ≤ 3600)
  | .bootLimit => decide (100 ≤ n) && decide (n ≤ 25500)
  | .exposureAllowance => decide (10 ≤ n) && decide (n ≤ 10000)
  | .faultLimit => decide (1 ≤ n) && decide (n ≤ 15)
  | .deliveryTimeout => decide (1 ≤ n) && decide (n ≤ 255)
  | .offerWindow => decide (10 ≤ n) && decide (n ≤ 25500)
  | .readyTimeout => decide (1 ≤ n) && decide (n ≤ 255)
  | .awakeLimit => decide (10 ≤ n) && decide (n ≤ 65535)
  | .restSpan => decide (n ≤ 65535)
  | .refractory => decide (1 ≤ n) && decide (n ≤ 3600)
  | .triggerEnable => decide (n ≤ 1)
  | .serviceEnable => decide (n ≤ 1)
  | .captureMode => decide (n ≤ 2)
  | .heaterMode => decide (n ≤ 2)
  | .blankLength => decide (n ≤ 4095)
  | .blankEdges => decide (n < 64)
  | .sagThreshold => decide (2000 ≤ n) && decide (n ≤ 16000)
  | .sagEnable => decide (n ≤ 1)
  | .sagMode => decide (n ≤ 1)
  | .measurePeriod => decide (10 ≤ n) && decide (n ≤ 3600)
  | .heaterPeriod => decide (1 ≤ n) && decide (n ≤ 255)
  | .autorun => decide (n ≤ 1)
  | .rampPosition => decide (n ≤ Config.maxPosition)

/-- The mode a SET in range names. -/
def modeOf (n : Nat) : Mode := (Mode.ofCode n).getD .auto

/-- The item's value replaced, for the items held in `Settings` (10 R182 stage 4). -/
def Settings.put (x : Settings) (i : Item) (v : Word32) : Settings :=
  let n := v.toNat
  match i with
  | .clock => x
  | .dayOffset => x
  | .capacity => { x with capacity := n }
  | .warmUp => { x with warmUp := n }
  | .keepWarm => { x with keepWarm := n }
  | .bootLimit => { x with bootLimit := n }
  | .exposureAllowance => { x with exposureAllowance := n }
  | .faultLimit => { x with faultLimit := n }
  | .deliveryTimeout => { x with deliveryTimeout := n }
  | .offerWindow => { x with offerWindow := n }
  | .readyTimeout => { x with readyTimeout := n }
  | .awakeLimit => { x with awakeLimit := n }
  | .restSpan => { x with restSpan := n }
  | .refractory => { x with refractory := n }
  | .triggerEnable => { x with triggerEnable := decide (n = 1) }
  | .serviceEnable => { x with serviceEnable := decide (n = 1) }
  | .captureMode => { x with captureMode := modeOf n }
  | .heaterMode => { x with heaterMode := modeOf n }
  | .blankLength => { x with blankLength := n }
  | .blankEdges => { x with blankEdges := namesOfBits EdgeKind.all n }
  | .sagThreshold => { x with sagThreshold := n }
  | .sagEnable => { x with sagEnable := decide (n = 1) }
  | .sagMode => { x with sagMode := if n = 1 then .latched else .cycle }
  | .measurePeriod => { x with measurePeriod := n }
  | .heaterPeriod => { x with heaterPeriod := n }
  | .autorun => { x with autorun := decide (n = 1) }
  | .rampPosition => x

/-- The item's present value as GET answers it (10 R183). -/
def State.itemValue (s : State) : Item → Word32
  | .clock => s.time.calendar
  | .dayOffset => BitVec.ofInt 32 s.time.dayOffset
  | .capacity => BitVec.ofNat 32 s.settings.capacity
  | .warmUp => BitVec.ofNat 32 s.settings.warmUp
  | .keepWarm => BitVec.ofNat 32 s.settings.keepWarm
  | .bootLimit => BitVec.ofNat 32 s.settings.bootLimit
  | .exposureAllowance => BitVec.ofNat 32 s.settings.exposureAllowance
  | .faultLimit => BitVec.ofNat 32 s.settings.faultLimit
  | .deliveryTimeout => BitVec.ofNat 32 s.settings.deliveryTimeout
  | .offerWindow => BitVec.ofNat 32 s.settings.offerWindow
  | .readyTimeout => BitVec.ofNat 32 s.settings.readyTimeout
  | .awakeLimit => BitVec.ofNat 32 s.settings.awakeLimit
  | .restSpan => BitVec.ofNat 32 s.settings.restSpan
  | .refractory => BitVec.ofNat 32 s.settings.refractory
  | .triggerEnable => BitVec.ofNat 32 s.settings.triggerEnable.toNat
  | .serviceEnable => BitVec.ofNat 32 s.settings.serviceEnable.toNat
  | .captureMode => BitVec.ofNat 32 s.settings.captureMode.code
  | .heaterMode => BitVec.ofNat 32 s.settings.heaterMode.code
  | .blankLength => BitVec.ofNat 32 s.settings.blankLength
  | .blankEdges => BitVec.ofNat 32 (bitsOf EdgeKind.code s.settings.blankEdges)
  | .sagThreshold => BitVec.ofNat 32 s.settings.sagThreshold
  | .sagEnable => BitVec.ofNat 32 s.settings.sagEnable.toNat
  | .sagMode => BitVec.ofNat 32 s.settings.sagMode.code
  | .measurePeriod => BitVec.ofNat 32 s.settings.measurePeriod
  | .heaterPeriod => BitVec.ofNat 32 s.settings.heaterPeriod
  | .autorun => BitVec.ofNat 32 s.settings.autorun.toNat
  | .rampPosition => BitVec.ofNat 32 s.ramp.position

/-! ### Rows (11 R197) with their value checks (09 R169) -/

/-- A value when it lies in a range. -/
def inBounds (lo hi n : Nat) : Option Nat := if lo ≤ n ∧ n ≤ hi then some n else none

/-- A signed value when it lies in a range. -/
def inBoundsInt (lo hi n : Int) : Option Int := if lo ≤ n ∧ n ≤ hi then some n else none

/-- A WINDOW row. -/
def readWindowRow : List Byte → Option WindowRow
  | [a, b, c, d, e, f, g, h, i] => do
    let start ← inBounds 0 86399 (natBE [a, b, c])
    let interval ← inBounds 1 86400 (natBE [d, e, f])
    let program ← inBounds 0 7 g.toNat
    let shoot ← yesNo h.toNat
    let events ← yesNo i.toNat
    some ⟨start, interval, program, shoot, events⟩
  | _ => none

/-- A PROGRAM row. Bracket count is carried as the number itself (log 15). -/
def readProgramRow : List Byte → Option ProgramRow
  | [a, b, c, d, e, f, g, h, i, j, k, l] => do
    let mode ← RampMode.ofCode a.toNat
    let target ← inBounds 0 255 b.toNat
    let deadBand ← inBounds 0 64 c.toNat
    let slew ← inBounds 1 64 d.toNat
    let floor ← inBounds 0 63 e.toNat
    let ceiling ← inBounds 0 63 f.toNat
    let clip ← inBounds 1 255 g.toNat
    let count ← if h.toNat = 1 ∨ h.toNat = 3 ∨ h.toNat = 5 then some h.toNat else none
    let spacing ← inBounds 1 4 i.toNat
    let tStart ← inBounds 0 63 j.toNat
    let tEnd ← inBounds 0 63 k.toNat
    let fixed ← inBounds 0 63 l.toNat
    some ⟨mode, target, deadBand, slew, floor, ceiling, clip, count, spacing, tStart, tEnd, fixed⟩
  | _ => none

/-- A LADDER row. -/
def readRung : List Byte → Option Rung
  | [a, b, c, d, e] => do
    let shutter ← inBounds 1 240000000 (natBE [a, b, c, d])
    let gain ← inBounds 0 31 e.toNat
    some ⟨shutter, gain⟩
  | _ => none

/-- A CORRECTION row. -/
def readCorrectionRow : List Byte → Option CorrectionRow
  | [a, b, c] => do
    let bound ← inBoundsInt (-255) 255 (signed16 a b)
    let correction ← inBoundsInt (-64) 64 (signed8 c)
    some ⟨bound, correction⟩
  | _ => none

/-- A RETENTION row. -/
def readRetentionRow : List Byte → Option RetentionRow
  | [a, b, c, d, e, f, g, h] => do
    let roles ← nonemptySet Role.all a.toNat
    let tiers ← nonemptySet Tier.named d.toNat
    let change ← ChangeTest.ofCode e.toNat
    let delta ← inBounds 1 255 f.toNat
    let action ← RetentionAction.ofCode g.toNat
    let every ← inBounds 2 255 h.toNat
    some ⟨roles, b.toNat, c.toNat, tiers, change, delta, action, every⟩
  | _ => none

/-- A TIER row. -/
def readTierRow : List Byte → Option TierRow
  | [a, b, c, d, e, f, g, h, i, j, k] => do
    let threshold ← inBounds 0 20000 (natBE [a, b])
    let hysteresis ← inBounds 0 1000 (natBE [c, d])
    let stretch ← Stretch.ofCode e.toNat
    let batch ← inBounds 1 8 f.toNat
    let hold ← inBounds 0 86400 (natBE [g, h, i])
    let allowed ← yesNo k.toNat
    some ⟨threshold, hysteresis, stretch, batch, hold, j.toNat, allowed⟩
  | _ => none

/-- A THERMAL row. -/
def readThermalRow : List Byte → Option ThermalRow
  | [a, b, c, d] => do
    let bound ← inBoundsInt (-400) 850 (signed16 a b)
    let duty ← inBounds 0 16 c.toNat
    let permitted ← yesNo d.toNat
    some ⟨bound, duty, permitted⟩
  | _ => none

/-- A set of tables (11 R195). -/
def tableSet (b : Byte) : Option (List Table) := nonemptySet Table.all b.toNat

/-- A set of channels (11 R195, 08 R152): none when it names no channel or one outside the three. -/
def channelSet (b : Byte) : Option Requests :=
  if b.toNat = 0 ∨ 8 ≤ b.toNat then none
  else some ⟨b.getLsbD 0, b.getLsbD 1, b.getLsbD 2⟩

end Sys2Proof.Machine
end

