-- ==== Sys2Proof/Machine/Packets.lean ====
section
/-! DEFINITION. Packets (11, sections 11.1 and 11.4): the check, the bytes on the wire, the port's tests of kind and
length, the packet of each command, and the command that a packet names. -/

namespace Sys2Proof.Machine

/-! ### The check (11 R191) -/

/-- One step of the CRC-8 with polynomial 07h, most significant bit first. -/
def crcShift (c : Byte) : Byte := if c.msb then (c <<< 1) ^^^ 0x07 else c <<< 1

/-- The CRC-8 after one more byte. -/
def crcStep (c b : Byte) : Byte :=
  crcShift (crcShift (crcShift (crcShift (crcShift (crcShift (crcShift (crcShift (c ^^^ b))))))))

/-- The CRC-8 of bytes, initial value 0. -/
def crc8 (bs : List Byte) : Byte := bs.foldl crcStep 0

/-- Bytes that the check covers: kind, length, payload. -/
def Packet.body (p : Packet) : List Byte := p.kind :: byteOf p.payload.length :: p.payload

/-- The check byte of a packet. -/
def Packet.check (p : Packet) : Byte := crc8 p.body

/-- The bytes of a packet on the link, in order. -/
def Packet.wire (p : Packet) : List Byte := Config.syncByte :: (p.body ++ [p.check])

/-! ### Kind and length tests of the ports (11 R195) -/

/-- Whether the presence byte of a SHOOT fits its length (11 R195; log 14). -/
def shootLengthOk : List Byte → Bool
  | [p] => p == 0
  | [p, _, _] => p == 1
  | _ => false

/-- Whether a kind is valid for packets from the recorder, with the length test of that kind. -/
def acceptsP (p : Packet) : Bool :=
  let n := p.payload.length
  match p.kind.toNat with
  | 0x01 => n == 0
  | 0x02 => n == 0
  | 0x03 => n == 1
  | 0x04 => n == 1
  | 0x10 => n == 5
  | 0x11 => n == 1
  | 0x12 => n == 0
  | 0x13 => n == 0
  | 0x14 => n == 1
  | 0x15 => shootLengthOk p.payload
  | 0x16 => n == 1
  | 0x17 => n == 0
  | 0x18 => decide (1 ≤ n) && decide (n ≤ 48)
  | 0x19 => n == 1
  | 0x1A => decide (5 ≤ n) && decide (n ≤ 14)
  | 0x1B => n == 3
  | 0x1C => n == 2
  | _ => false

/-- Whether a kind is valid for packets from the capture module, with the length test of that kind. -/
def acceptsS (p : Packet) : Bool :=
  let n := p.payload.length
  match p.kind.toNat with
  | 0x18 => decide (1 ≤ n) && decide (n ≤ 48)
  | 0x50 => n == 0
  | 0x51 => n == 9
  | 0x52 => n == 1
  | 0x53 => n == 1
  | 0x54 => n == 1
  | _ => false

/-- The port's tests of kind and length for a packet received on a link (11 R192, R195). -/
def Packet.accepted (l : Link) (p : Packet) : Bool :=
  match l with
  | .p => acceptsP p
  | .s => acceptsS p

/-! ### The packets that carry commands -/

def word32Bytes (w : Word32) : List Byte := bytesBE 4 w.toNat
def word16Bytes (w : Word16) : List Byte := bytesBE 2 w.toNat

def readyPacket : Packet := ⟨0x01, []⟩
def sleepPacket : Packet := ⟨0x02, []⟩
def claimPacket (tag : Byte) : Packet := ⟨0x03, [tag]⟩
def waivePacket (tag : Byte) : Packet := ⟨0x04, [tag]⟩
def setPacket (item : Byte) (value : Word32) : Packet := ⟨0x10, item :: word32Bytes value⟩
def getPacket (item : Byte) : Packet := ⟨0x11, [item]⟩
def startPacket : Packet := ⟨0x12, []⟩
def stopPacket : Packet := ⟨0x13, []⟩
def clearPacket (group : Byte) : Packet := ⟨0x14, [group]⟩
def shootPacket : Option Word16 → Packet
  | none => ⟨0x15, [0]⟩
  | some r => ⟨0x15, 1 :: word16Bytes r⟩
def measurePacket (channels : Byte) : Packet := ⟨0x16, [channels]⟩
def queryPacket : Packet := ⟨0x17, []⟩
def relayPacket (payload : List Byte) : Packet := ⟨0x18, payload⟩
def openPacket (table : Byte) : Packet := ⟨0x19, [table]⟩
def rowPacket (table number : Byte) (fields : List Byte) : Packet := ⟨0x1A, table :: number :: fields⟩
def closePacket (count : Byte) (check : Word16) : Packet := ⟨0x1B, count :: word16Bytes check⟩
def commitPacket (tables point : Byte) : Packet := ⟨0x1C, [tables, point]⟩
def helloPacket : Packet := ⟨0x50, []⟩
def framePacket (tag : Byte) (shutter : Word32) (gain mean hi lo : Byte) : Packet :=
  ⟨0x51, tag :: (word32Bytes shutter ++ [gain, mean, hi, lo])⟩
def deliveredPacket (tag : Byte) : Packet := ⟨0x52, [tag]⟩
def undeliveredPacket (tag : Byte) : Packet := ⟨0x53, [tag]⟩
def faultPacket (code : Byte) : Packet := ⟨0x54, [code]⟩

/-- Link and packet of a command that a packet carries; none for the other events. -/
def packetOf : Instr → Option (Link × Packet)
  | .hello => some (.s, helloPacket)
  | .frame t sh g m hi lo => some (.s, framePacket t sh g m hi lo)
  | .delivered t => some (.s, deliveredPacket t)
  | .undelivered t => some (.s, undeliveredPacket t)
  | .fault c => some (.s, faultPacket c)
  | .moduleRelay bs => some (.s, relayPacket bs)
  | .ready => some (.p, readyPacket)
  | .sleep => some (.p, sleepPacket)
  | .claim t => some (.p, claimPacket t)
  | .waive t => some (.p, waivePacket t)
  | .setClock v => some (.p, setPacket 0 v)
  | .setDayOffset v => some (.p, setPacket 1 v)
  | .setCapacity v => some (.p, setPacket 2 v)
  | .setCaptureMode v => some (.p, setPacket 16 v)
  | .setHeaterMode v => some (.p, setPacket 17 v)
  | .setSagThreshold v => some (.p, setPacket 20 v)
  | .setSagEnable v => some (.p, setPacket 21 v)
  | .setRampPosition v => some (.p, setPacket 26 v)
  | .set i v => some (.p, setPacket i v)
  | .get i => some (.p, getPacket i)
  | .clearCounters => some (.p, clearPacket 0)
  | .clearFlags => some (.p, clearPacket 1)
  | .clearLatch => some (.p, clearPacket 2)
  | .clear g => some (.p, clearPacket g)
  | .query => some (.p, queryPacket)
  | .start => some (.p, startPacket)
  | .stop => some (.p, stopPacket)
  | .shoot r => some (.p, shootPacket r)
  | .measure c => some (.p, measurePacket c)
  | .relay bs => some (.p, relayPacket bs)
  | .openTable t => some (.p, openPacket t)
  | .row t n fs => some (.p, rowPacket t n fs)
  | .close n c => some (.p, closePacket n c)
  | .commit ts pt => some (.p, commitPacket ts pt)
  | .coldStart => none
  | .resetEntry => none
  | .warmReset => none
  | .powerBadEntry => none
  | .powerBadReturn => none
  | .secondTick => none
  | .trigActive => none
  | .serviceActive => none
  | .strobeRise => none
  | .sagTrip _ => none
  | .refractoryExpiry => none
  | .bootTimerExpiry => none
  | .exposureDeadlineExpiry => none
  | .deliveryTimerExpiry => none
  | .relayReplyLimitExpiry => none
  | .readyTimerExpiry => none
  | .awakeTimerExpiry => none
  | .offerTimeout => none
  | .restTimerExpiry => none
  | .measurePeriodExpiry => none
  | .conversionComplete _ => none
  | .blankingWindowExpiry => none
  | .heaterPeriodExpiry => none
  | .heaterOnPhaseExpiry => none
  | .packetReceived _ _ _ _ => none
  | .linkGapTimeout _ => none
  | .transmissionComplete _ => none
  | .millisecondEdge => none
  | .byteReceived _ _ _ => none
  | .comparatorLevelChange _ => none
  | .trigOrServiceHigh _ => none
  | .supokChangeInReset => none

/-! ### The command a packet names (11 R195) -/

/-- A 32-bit field. -/
def word32Of (a b c d : Byte) : Word32 := BitVec.ofNat 32 (natBE [a, b, c, d])

/-- A 16-bit field. -/
def word16Of (a b : Byte) : Word16 := BitVec.ofNat 16 (natBE [a, b])

/-- The command of a SET packet: the item's own command where the table has one. -/
def setCommand (item : Byte) (v : Word32) : Instr :=
  match item.toNat with
  | 0 => .setClock v
  | 1 => .setDayOffset v
  | 2 => .setCapacity v
  | 16 => .setCaptureMode v
  | 17 => .setHeaterMode v
  | 20 => .setSagThreshold v
  | 21 => .setSagEnable v
  | 26 => .setRampPosition v
  | _ => .set item v

/-- The command of a CLEAR packet. -/
def clearCommand (group : Byte) : Instr :=
  match group.toNat with
  | 0 => .clearCounters
  | 1 => .clearFlags
  | 2 => .clearLatch
  | _ => .clear group

/-- The command of a P-link packet from the recorder. -/
def commandOfP (p : Packet) : Option Instr :=
  match p.kind.toNat, p.payload with
  | 0x01, [] => some .ready
  | 0x02, [] => some .sleep
  | 0x03, [t] => some (.claim t)
  | 0x04, [t] => some (.waive t)
  | 0x10, [i, a, b, c, d] => some (setCommand i (word32Of a b c d))
  | 0x11, [i] => some (.get i)
  | 0x12, [] => some .start
  | 0x13, [] => some .stop
  | 0x14, [g] => some (clearCommand g)
  | 0x15, [_] => some (.shoot none)
  | 0x15, [_, a, b] => some (.shoot (some (word16Of a b)))
  | 0x16, [c] => some (.measure c)
  | 0x17, [] => some .query
  | 0x18, bs => some (.relay bs)
  | 0x19, [t] => some (.openTable t)
  | 0x1A, t :: n :: fs => some (.row t n fs)
  | 0x1B, [n, a, b] => some (.close n (word16Of a b))
  | 0x1C, [ts, pt] => some (.commit ts pt)
  | _, _ => none

/-- The command of an S-link packet from the capture module. -/
def commandOfS (p : Packet) : Option Instr :=
  match p.kind.toNat, p.payload with
  | 0x18, bs => some (.moduleRelay bs)
  | 0x50, [] => some .hello
  | 0x51, [t, a, b, c, d, g, m, hi, lo] => some (.frame t (word32Of a b c d) g m hi lo)
  | 0x52, [t] => some (.delivered t)
  | 0x53, [t] => some (.undelivered t)
  | 0x54, [c] => some (.fault c)
  | _, _ => none

/-- The command that a received packet names; none for a packet the port refuses (11 R192, R195). -/
def commandOf (l : Link) (p : Packet) : Option Instr :=
  if p.accepted l then
    match l with
    | .p => commandOfP p
    | .s => commandOfS p
  else none

/-! ### The packets the part sends (11 R195) -/

/-- An ANSWER (10 R181): the request's kind, the result, and the value when there is one. -/
def answerPacket (kind : Byte) (r : AnswerCode) : Option Word32 → Packet
  | none => ⟨0x22, [kind, byteOf r.code, 0]⟩
  | some v => ⟨0x22, [kind, byteOf r.code, 1] ++ word32Bytes v⟩

/-- An EXPOSE (04 R70). -/
def exposePacket (tag : Byte) (e : Exposure) (role : Role) : Packet :=
  ⟨0x40, tag :: (bytesBE 4 e.shutter ++ [byteOf e.gain, byteOf role.code])⟩

/-- A DROP (04 R73 to R79). -/
def dropPacket (tag : Byte) : Packet := ⟨0x41, [tag]⟩

/-- A RELEASE (04 R77). -/
def releasePacket (tag : Byte) : Packet := ⟨0x42, [tag]⟩

/-- Kind code of OFFER. -/
def offerKind : Byte := 0x21

/-- A stamp as calendar second and millisecond phase (11 R195). -/
def stampBytes (t : Stamp) : List Byte := word32Bytes t.second ++ bytesBE 2 t.ms

/-- The tag of a record (04 R59). -/
def ShotRecord.tag (r : ShotRecord) : Byte := r.number.setWidth 8

/-- The OFFER of a record (06 R112, 11 R195). Every record offered has its frame facts; a record without them
would be offered with zeros (log 20). -/
def offerPacket (r : ShotRecord) : Packet :=
  let presence := r.offset.isSome.toNat + 2 * r.indices.isSome.toNat + 4 * r.strobe.isSome.toNat
  let facts := r.facts.getD ⟨0, 0, 0⟩
  ⟨offerKind,
    [r.tag] ++ word32Bytes r.number ++ [byteOf r.role.code, byteOf presence]
      ++ (match r.offset with | some o => intBE 1 o | none => [])
      ++ (match r.indices with | some x => [byteOf x.window, byteOf x.program] | none => [])
      ++ stampBytes r.orderedAt
      ++ (match r.strobe with | some t => stampBytes t | none => [])
      ++ bytesBE 4 r.exposure.shutter ++ [byteOf r.exposure.gain]
      ++ [facts.mean, facts.clippedHigh, facts.clippedLow]⟩

end Sys2Proof.Machine
end

