-- ==== Sys2Proof/Machine/Tables.lean ====
section
/-! DEFINITION. What the blocks read from the active banks (window, program, tier and thermal rows, the stretch, the
band), the checks of tables (09 R171, R173), and writing and exchanging banks (09 R165 to R174). -/

namespace Sys2Proof.Machine

/-! ### Time of day (01 R2) -/

/-- Calendar plus day offset as a signed whole number (01 R2). -/
def TimeBase.sum (t : TimeBase) : Int := (t.calendar.toNat : Int) + t.dayOffset

/-- Second of day (01 R2). -/
def TimeBase.secondOfDay (t : TimeBase) : Nat := (t.sum % (Config.secondsPerDay : Int)).toNat

/-- Day number, rounded down toward minus infinity (01 R2). -/
def TimeBase.dayNumber (t : TimeBase) : Int := t.sum / (Config.secondsPerDay : Int)

/-- Now, as stamped into a record (01 R9). -/
def TimeBase.now (t : TimeBase) : Stamp := ⟨t.calendar, t.phase⟩

/-- Age of a stored calendar second; 0 while it lies in the future (01 R9). -/
def TimeBase.age (t : TimeBase) (stored : Word32) : Nat := t.calendar.toNat - stored.toNat

/-! ### Windows (02 R15) -/

/-- The row whose window contains second of day `d`: the last row that starts at or before `d`, or the last row of
the table before row 0's start (02 R15). -/
def windowAt (rows : List WindowRow) (d : Nat) : Option Nat :=
  if rows = [] then none
  else
    let n := rows.countP (fun r => decide (r.start ≤ d))
    some (if n = 0 then rows.length - 1 else n - 1)

/-- The row that starts at second of day `d` (02 R20). -/
def windowStarting (rows : List WindowRow) (d : Nat) : Option Nat :=
  rows.findIdx? (fun r => decide (r.start = d))

/-- Length of the window of row `i` (02 R15). -/
def windowLength (rows : List WindowRow) (i : Nat) : Nat :=
  match rows[i]?, rows[i + 1]? with
  | some r, some next => next.start - r.start
  | some r, none => Config.secondsPerDay - r.start + (rows.head?.map (·.start)).getD 0
  | none, _ => Config.secondsPerDay

/-- Seconds into the window that starts at `start` (02 R15). -/
def secondsInto (start d : Nat) : Nat := (d + Config.secondsPerDay - start) % Config.secondsPerDay

/-- Rows of the active window bank. -/
def State.windows (s : State) : List WindowRow := s.store.window.active.rows

/-- The current window's row. -/
def State.currentWindow (s : State) : Option WindowRow :=
  match s.sched.window with
  | none => none
  | some i => s.windows[i]?

/-- The current window's program row, read from the active program bank (03 R39). -/
def State.currentProgram (s : State) : Option ProgramRow :=
  match s.currentWindow with
  | none => none
  | some w => s.store.program.active.rows[w.program]?

/-- Window and program index of records made while RUNNING (04 R59). -/
def State.currentIndices (s : State) : Option Indices :=
  match s.sched.state, s.sched.window, s.currentWindow with
  | .running, some i, some w => some ⟨i, w.program⟩
  | _, _, _ => none

/-! ### Tiers (08 R159, R160) -/

/-- The row of the active tier bank for the current tier; none while UNSET. -/
def State.tierRow (s : State) : Option TierRow :=
  match s.meas.tier.row with
  | none => none
  | some i => s.store.tier.active.rows[i]?

/-- The current stretch; an UNSET tier acts as stretch 1 (08 R162). -/
def State.stretch (s : State) : Stretch :=
  match s.tierRow with
  | none => .x1
  | some r => r.stretch

/-- Factor on the interval; SUSPEND compares with stretch 1 (02 R19). -/
def Stretch.factor : Stretch → Nat
  | .x1 => 1
  | .x2 => 2
  | .x4 => 4
  | .x8 => 8
  | .suspend => 1

/-- Whether the current tier's stretch is SUSPEND. -/
def State.suspended (s : State) : Bool := s.stretch == .suspend

/-- Effective interval of the current window (02 R19). -/
def State.effectiveInterval (s : State) : Option Nat :=
  match s.currentWindow with
  | none => none
  | some w => some (min Config.secondsPerDay (w.interval * s.stretch.factor))

/-- Tier evaluation of a battery result (08 R160). -/
def evaluateTier (rows : List TierRow) (current : Tier) (v : Nat) : Tier :=
  let lowest := rows.findIdx? (fun r => decide (r.threshold ≤ v))
  match current.row with
  | none =>
    match lowest with
    | some i => Tier.ofRow i
    | none => current
  | some c =>
    if v < ((rows[c]?).map (·.threshold)).getD 0 then
      match lowest with
      | some i => Tier.ofRow i
      | none => current
    else
      match (rows.take c).findIdx? (fun r => decide (r.threshold + r.hysteresis ≤ v)) with
      | some i => Tier.ofRow i
      | none => current

/-- Whether the current tier bans heat (07 R140); heat is allowed while UNSET. -/
def State.tierBansHeat (s : State) : Bool :=
  match s.tierRow with
  | none => false
  | some r => !r.heaterAllowed

/-! ### Thermal band (07 R136) -/

/-- The band of a temperature: the first row whose bound is at least it, or the last row (07 R136). -/
def bandOf (rows : List ThermalRow) (t : Int) : Option Nat :=
  match rows.findIdx? (fun r => decide (t ≤ r.bound)) with
  | some i => some i
  | none => if rows = [] then none else some (rows.length - 1)

/-- The band selected from the last temperature result (07 R136). -/
def State.selectedBand (s : State) : Option Nat :=
  match s.meas.lastTemperature with
  | none => none
  | some t => bandOf s.store.thermal.active.rows t

/-- The thermal row of the band; none while the band is absent. -/
def State.bandRow (s : State) : Option ThermalRow :=
  match s.rails.band with
  | none => none
  | some i => s.store.thermal.active.rows[i]?

/-- Whether the thermal band forbids capture; permitted while the band is absent (07 R136). -/
def State.bandForbids (s : State) : Bool :=
  match s.bandRow with
  | none => false
  | some r => !r.capturePermitted

/-- The band's heater duty; 0 while the band is absent (07 R136). -/
def State.bandDuty (s : State) : Nat :=
  match s.bandRow with
  | none => 0
  | some r => r.duty

/-! ### Table checks -/

/-- Every row relates to the row before it (09 R171). -/
def rowsRelate {α : Type} (r : α → α → Bool) : List α → Bool
  | a :: b :: rest => r a b && rowsRelate r (b :: rest)
  | _ => true

/-- A row count within bounds (09 R171). -/
def countWithin (lo hi n : Nat) : Bool := decide (lo ≤ n) && decide (n ≤ hi)

/-- WINDOW's own check (09 R171). -/
def windowTableOk (rows : List WindowRow) : Bool :=
  countWithin 1 16 rows.length && rowsRelate (fun a b => decide (a.start < b.start)) rows

/-- PROGRAM's own check (09 R171). -/
def programTableOk (rows : List ProgramRow) : Bool :=
  countWithin 1 8 rows.length && rows.all (fun r => decide (r.floor ≤ r.ceiling))

/-- LADDER's own check (09 R171, 03 R37). -/
def ladderTableOk (rows : List Rung) : Bool :=
  countWithin 2 64 rows.length &&
    rowsRelate (fun a b => decide (a.shutter ≤ b.shutter) && decide (a.gain ≤ b.gain) &&
      (decide (a.shutter < b.shutter) || decide (a.gain < b.gain))) rows

/-- CORRECTION's own check (09 R171). -/
def correctionTableOk (rows : List CorrectionRow) : Bool :=
  countWithin 1 16 rows.length && rowsRelate (fun a b => decide (a.bound < b.bound)) rows &&
    rows.getLast?.any (fun r => r.bound == 255)

/-- RETENTION's own check (09 R171). -/
def retentionTableOk (rows : List RetentionRow) : Bool :=
  countWithin 1 16 rows.length && rows.all (fun r => decide (r.meanLow ≤ r.meanHigh))

/-- TIER's own check (09 R171). -/
def tierTableOk (rows : List TierRow) : Bool :=
  rows.length == 4 && rowsRelate (fun a b => decide (b.threshold < a.threshold)) rows &&
    rows.getLast?.any (fun r => r.threshold == 0)

/-- THERMAL's own check (09 R171). -/
def thermalTableOk (rows : List ThermalRow) : Bool :=
  countWithin 1 8 rows.length && rowsRelate (fun a b => decide (a.bound < b.bound)) rows &&
    rows.getLast?.any (fun r => r.bound == 850)

/-- The own check of the rows that stand in a table's staged bank (09 R170, R171). -/
def TableStore.stagedOk (st : TableStore) : Table → Bool
  | .window => windowTableOk st.window.staged.rows
  | .program => programTableOk st.program.staged.rows
  | .ladder => ladderTableOk st.ladder.staged.rows
  | .correction => correctionTableOk st.correction.staged.rows
  | .retention => retentionTableOk st.retention.staged.rows
  | .tier => tierTableOk st.tier.staged.rows
  | .thermal => thermalTableOk st.thermal.staged.rows

/-- Every window row names a program of the bank (09 R173). -/
def windowsFitPrograms (ws : List WindowRow) (ps : List ProgramRow) : Bool :=
  ws.all (fun w => decide (w.program < ps.length))

/-- Every rung that a program row names, but the floor, lies below the ladder's length (09 R173). -/
def programsFitLadder (ps : List ProgramRow) (ladder : List Rung) : Bool :=
  ps.all (fun p => decide (p.ceiling < ladder.length) && decide (p.timedStart < ladder.length) &&
    decide (p.timedEnd < ladder.length) && decide (p.fixedRung < ladder.length))

/-- The bank that is active after a swap of the named tables. -/
def BankPair.after {α : Type} (bp : BankPair α) (named : Bool) : Bank α := if named then bp.staged else bp.active

/-- The cross checks of a COMMIT (09 R173), each made only when both banks will be VALID. -/
def TableStore.crossOk (st : TableStore) (tables : List Table) : Bool :=
  let w := st.window.after (tables.contains .window)
  let p := st.program.after (tables.contains .program)
  let l := st.ladder.after (tables.contains .ladder)
  (!(w.valid && p.valid) || windowsFitPrograms w.rows p.rows) &&
    (!(p.valid && l.valid) || programsFitLadder p.rows l.rows)

/-! ### Banks -/

/-- Whether a table's staged bank is VALID. -/
def TableStore.stagedValid (st : TableStore) : Table → Bool
  | .window => st.window.staged.valid
  | .program => st.program.staged.valid
  | .ladder => st.ladder.staged.valid
  | .correction => st.correction.staged.valid
  | .retention => st.retention.staged.valid
  | .tier => st.tier.staged.valid
  | .thermal => st.thermal.staged.valid

/-- Whether all seven active banks are VALID (02 R16). -/
def TableStore.allValid (st : TableStore) : Bool :=
  st.window.active.valid && st.program.active.valid && st.ladder.active.valid && st.correction.active.valid &&
    st.retention.active.valid && st.tier.active.valid && st.thermal.active.valid

/-- The staged bank of a pair becomes EMPTY. -/
def BankPair.dropStaged {α : Type} (bp : BankPair α) : BankPair α := { bp with staged := Bank.empty α }

/-- The staged bank takes one more row while it is loaded (09 R168). -/
def BankPair.addRow {α : Type} (bp : BankPair α) (r : α) : BankPair α :=
  { bp with staged := { bp.staged with rows := bp.staged.rows ++ [r] } }

/-- The staged bank becomes VALID with its bank check (09 R170). -/
def BankPair.seal {α : Type} (bp : BankPair α) (check : Word16) : BankPair α :=
  { bp with staged := { bp.staged with valid := true, check := check } }

/-- Active and staged bank exchanged (09 R174). -/
def BankPair.swap {α : Type} (bp : BankPair α) (named : Bool) : BankPair α :=
  if named then ⟨bp.staged, bp.active⟩ else bp

/-- A table's staged bank becomes EMPTY and loses its rows (09 R167, R172). -/
def TableStore.emptyStaged (st : TableStore) : Table → TableStore
  | .window => { st with window := st.window.dropStaged }
  | .program => { st with program := st.program.dropStaged }
  | .ladder => { st with ladder := st.ladder.dropStaged }
  | .correction => { st with correction := st.correction.dropStaged }
  | .retention => { st with retention := st.retention.dropStaged }
  | .tier => { st with tier := st.tier.dropStaged }
  | .thermal => { st with thermal := st.thermal.dropStaged }

/-- A table's staged bank becomes VALID with its bank check (09 R170). -/
def TableStore.sealStaged (st : TableStore) (t : Table) (check : Word16) : TableStore :=
  match t with
  | .window => { st with window := st.window.seal check }
  | .program => { st with program := st.program.seal check }
  | .ladder => { st with ladder := st.ladder.seal check }
  | .correction => { st with correction := st.correction.seal check }
  | .retention => { st with retention := st.retention.seal check }
  | .tier => { st with tier := st.tier.seal check }
  | .thermal => { st with thermal := st.thermal.seal check }

/-- The row that the fields spell is stored at the end of the table's staged bank; none when a field fails its
value check (09 R168, R169). -/
def TableStore.storeRow (st : TableStore) (t : Table) (fields : List Byte) : Option TableStore :=
  match t with
  | .window => (readWindowRow fields).map (fun r => { st with window := st.window.addRow r })
  | .program => (readProgramRow fields).map (fun r => { st with program := st.program.addRow r })
  | .ladder => (readRung fields).map (fun r => { st with ladder := st.ladder.addRow r })
  | .correction => (readCorrectionRow fields).map (fun r => { st with correction := st.correction.addRow r })
  | .retention => (readRetentionRow fields).map (fun r => { st with retention := st.retention.addRow r })
  | .tier => (readTierRow fields).map (fun r => { st with tier := st.tier.addRow r })
  | .thermal => (readThermalRow fields).map (fun r => { st with thermal := st.thermal.addRow r })

/-- The exchange of the named tables' banks (09 R174). -/
def TableStore.exchange (st : TableStore) (tables : List Table) : TableStore :=
  { st with
    window := st.window.swap (tables.contains .window)
    program := st.program.swap (tables.contains .program)
    ladder := st.ladder.swap (tables.contains .ladder)
    correction := st.correction.swap (tables.contains .correction)
    retention := st.retention.swap (tables.contains .retention)
    tier := st.tier.swap (tables.contains .tier)
    thermal := st.thermal.swap (tables.contains .thermal) }

/-- An open load transaction is abandoned: idle, its table's staged bank EMPTY (09 R172). -/
def TableStore.abandon (st : TableStore) : TableStore :=
  match st.load with
  | none => st
  | some tr => { st.emptyStaged tr.table with load := none }

/-- Row counts and bank checks of a pair as in STATUS part 2 (11 R196): 0 and 0 for an EMPTY bank. -/
def Bank.statusBytes {α : Type} (b : Bank α) : List Byte :=
  if b.valid then byteOf b.rows.length :: word16Bytes b.check else [0, 0, 0]

/-- See `Bank.statusBytes`. -/
def BankPair.statusBytes {α : Type} (bp : BankPair α) : List Byte :=
  bp.active.statusBytes ++ bp.staged.statusBytes

end Sys2Proof.Machine
end

