-- ==== Sys2Proof/Machine/Exposures.lean ====
section
/-! DEFINITION. The Ramp Unit (03): positions and exposures of shots, clamps, and the ramp update. -/

namespace Sys2Proof.Machine

/-! ### Exposure of a position (03 R38) -/

/-- Number of rungs of the active ladder (03 R37). -/
def State.ladder (s : State) : List Rung := s.store.ladder.active.rows

/-- Clamped to the ladder: 0 … (L−1)×16; 0 while the ladder bank is EMPTY (03 R37). -/
def clampToLadder (ladder : List Rung) (q : Int) : Nat :=
  (max 0 (min q (((ladder.length - 1) * 16 : Nat) : Int))).toNat

/-- Clamped to a program's floor × 16 … ceiling × 16 (03 R39). -/
def clampToProgram (p : ProgramRow) (q : Int) : Nat :=
  (max ((p.floor * 16 : Nat) : Int) (min q ((p.ceiling * 16 : Nat) : Int))).toNat

/-- The exposure of a position (03 R38). With an EMPTY ladder none is computed; the zeros stand for that case,
which no record reaches (03 R37; log 20). -/
def exposureAt (ladder : List Rung) (q : Int) : Exposure :=
  let pos := clampToLadder ladder q
  let k := pos / 16
  let f := pos % 16
  match ladder[k]?, ladder[k + 1]? with
  | some a, some b => ⟨pos, a.shutter + ((b.shutter - a.shutter) * f) / 16, a.gain⟩
  | some a, none => ⟨pos, a.shutter, a.gain⟩
  | none, _ => ⟨pos, 0, 0⟩

/-! ### Positions (03 R42 to R46) -/

/-- TIMED position before its clamp (03 R43); division truncates toward zero. -/
def timedPosition (p : ProgramRow) (s w : Nat) : Int :=
  (p.timedStart : Int) * 16 + Int.tdiv (((p.timedEnd : Int) - p.timedStart) * 16 * s) w

/-- Position of a CENTER or EVENT shot of a program (03 R42, R45). -/
def programPosition (p : ProgramRow) (ramp seconds length : Nat) : Nat :=
  clampToProgram p
    (match p.mode with
     | .fixed => ((p.fixedRung * 16 : Nat) : Int)
     | .timed => timedPosition p seconds length
     | .metered => (ramp : Int))

/-- Position of a CENTER or EVENT shot issued now in the current window (03 R41, R42). -/
def State.centerPosition (s : State) (p : ProgramRow) : Nat :=
  let d := s.time.secondOfDay
  let i := s.sched.window.getD 0
  let start := (s.currentWindow.map (·.start)).getD 0
  programPosition p s.ramp.position (secondsInto start d) (windowLength s.windows i)

/-- Bracket offsets in member order (03 R44). -/
def memberOffsets (count : Nat) : List Int :=
  if count = 5 then [0, -1, 1, -2, 2] else if count = 3 then [0, -1, 1] else [0]

/-- Position of a bracket member (03 R44): clamped to the ladder, not to the program. -/
def memberPosition (ladder : List Rung) (p : ProgramRow) (center : Nat) (offset : Int) : Nat :=
  clampToLadder ladder ((center : Int) + offset * p.spacing * 16)

/-! ### Clamps (03 R54 to R56, R58) -/

/-- The ramp position clamped to the ladder and, while RUNNING, to the current window's program (03 R54 to R56). -/
def State.clampedPosition (s : State) : Nat :=
  let onLadder := clampToLadder s.ladder s.ramp.position
  match s.sched.state, s.currentProgram with
  | .running, some p => clampToProgram p onLadder
  | _, _ => onLadder

/-- The clamp at a window entry: the generation advances when the position moves (03 R54). -/
def State.entryClamp (s : State) : State :=
  if s.clampedPosition = s.ramp.position then s
  else { s with ramp := { s.ramp with position := s.clampedPosition, generation := s.ramp.generation + 1 } }

/-- The clamp at a swap of LADDER or PROGRAM: the generation advances whether or not the position moves
(03 R55, R56). -/
def State.swapClamp (s : State) : State :=
  { s with ramp := { s.ramp with position := s.clampedPosition, generation := s.ramp.generation + 1 } }

/-! ### The ramp update (03 R47 to R52) -/

/-- The correction of a deviation: the first row whose bound is at least it (03 R40). -/
def lookupCorrection (rows : List CorrectionRow) (d : Int) : Int :=
  match rows.find? (fun r => decide (d ≤ r.bound)) with
  | some r => r.correction
  | none => 0

/-- Stages 3 and 4 (03 R49 to R51): dead band, table, clip guard, slew. -/
def appliedCorrection (p : ProgramRow) (rows : List CorrectionRow) (f : Facts) : Int :=
  let d : Int := (f.mean.toNat : Int) - p.target
  let c := if d.natAbs ≤ p.deadBand then 0 else lookupCorrection rows d
  let guarded := if p.clipLimit ≤ f.clippedHigh.toNat then min c (-16) else c
  max (-(p.slew : Int)) (min guarded p.slew)

/-- The program whose floor and ceiling clamp the sum of stage 5 (03 R51). -/
def State.updateClampProgram (s : State) (reported : ProgramRow) : ProgramRow :=
  match s.sched.state with
  | .running => s.currentProgram.getD reported
  | .stopped => reported

/-- Stage 5 and the completion (03 R51, R52). -/
def State.applyCorrection (s : State) (reported : ProgramRow) (a : Int) : State :=
  { s with
    ramp :=
      { position := clampToProgram (s.updateClampProgram reported) ((s.ramp.position : Int) + a)
        generation := if a = 0 then s.ramp.generation else s.ramp.generation + 1
        lastCorrection := a } }

/-- The ramp update from the report of a CENTER record (03 R47 to R52). -/
def State.rampUpdate (s : State) (r : ShotRecord) (f : Facts) : State :=
  if r.generation ≠ some s.ramp.generation then s.count .staleReport
  else
    match r.indices.bind (fun x => s.store.program.active.rows[x.program]?) with
    | none => s
    | some p =>
      match p.mode with
      | .metered => s.applyCorrection p (appliedCorrection p s.store.correction.active.rows f)
      | .timed => s
      | .fixed => s

end Sys2Proof.Machine
end

