-- ==== Sys2Proof/Machine/Ops.lean ====
section
/-! DEFINITION. The operations that several commands share: timeouts (01 R8), link ports, records of the Shot Queue,
the capture rail with its flush (07 R126 to R132), the other outputs and their edges, the arbiter (08 R149), the
session with its wakes, offers and ends (05 R98 to R102, 06), and the closing of an event. -/

namespace Sys2Proof.Machine

/-! ### Timeouts (01 R8) -/

/-- A timeout of `ms` milliseconds, which expires at the (n+1)-th edge; one of length 0 is not started (R8). -/
def Timer.start (ms : Nat) : Timer := if ms = 0 then .idle else .running (ms + 1)

/-- A timeout of a duration set in seconds (R8). -/
def Timer.startSeconds (sec : Nat) : Timer := Timer.start (sec * Config.msPerSecond)

/-- The timeout after `n` more millisecond edges (log 2). -/
def Timer.age (n : Nat) : Timer → Timer
  | .idle => .idle
  | .running k => .running (k - n)

/-- Whether the timeout's last edge has come (log 2). -/
def Timer.due : Timer → Bool
  | .running 0 => true
  | _ => false

/-- Every timeout of the part after `n` more edges (R8). -/
def State.ageTimers (n : Nat) (s : State) : State :=
  { s with
    sched := { s.sched with refractory := s.sched.refractory.age n }
    queue := { s.queue with bootTimer := s.queue.bootTimer.age n, deadline := s.queue.deadline.age n,
                            deliveryTimer := s.queue.deliveryTimer.age n,
                            relayLimit := s.queue.relayLimit.age n }
    session := { s.session with readyTimer := s.session.readyTimer.age n,
                                awakeTimer := s.session.awakeTimer.age n,
                                offerTimer := s.session.offerTimer.age n,
                                restTimer := s.session.restTimer.age n }
    rails := { s.rails with heaterPeriod := s.rails.heaterPeriod.age n,
                            heaterOnPhase := s.rails.heaterOnPhase.age n }
    meas := { s.meas with conversion := s.meas.conversion.age n, measurePeriod := s.meas.measurePeriod.age n,
                          blanking := s.meas.blanking.age n }
    plink := { s.plink with gap := s.plink.gap.age n }
    slink := { s.slink with gap := s.slink.gap.age n } }

/-! ### Link ports -/

/-- The port of a link. -/
def State.port (s : State) : Link → Port
  | .p => s.plink
  | .s => s.slink

/-- A link's port replaced. -/
def State.setPort (s : State) (l : Link) (x : Port) : State :=
  match l with
  | .p => { s with plink := x }
  | .s => { s with slink := x }

/-- A packet joins the tail of the P-link's transmit line (11 R194). -/
def State.sendP (p : Packet) (s : State) : State :=
  { s with plink := { s.plink with tx := s.plink.tx ++ [p] } }

/-- Packets join the tail of the P-link's transmit line in order (11 R194). -/
def State.sendAllP (ps : List Packet) (s : State) : State :=
  { s with plink := { s.plink with tx := s.plink.tx ++ ps } }

/-- A packet joins the tail of the S-link's transmit line (11 R194). -/
def State.sendS (p : Packet) (s : State) : State :=
  { s with slink := { s.slink with tx := s.slink.tx ++ [p] } }

/-- An ANSWER without a value (10 R181). -/
def State.answer (kind : Byte) (r : AnswerCode) (s : State) : State := s.sendP (answerPacket kind r none)

/-- The counter of bad packets of a link (11 R192). -/
def badCounter : Link → Counter
  | .p => .pBadPackets
  | .s => .sBadPackets

/-- The counter of overruns of a link (11 R192). -/
def overrunCounter : Link → Counter
  | .p => .pOverruns
  | .s => .sOverruns

/-- A complete packet reaches the receive queue, or is an overrun (11 R192). -/
def State.arrive (l : Link) (p : Packet) (s : State) : State :=
  if (s.port l).rx.length < Config.rxPlaces then
    s.setPort l { s.port l with rx := (s.port l).rx ++ [p] }
  else s.count (overrunCounter l)

/-- A packet command: the hand-over of packet `p` on link `l` (11 R193; log 4). Whether it comes of itself, when the
ports serve their queues, or is commanded, the step is this one. A packet at the head of the receive
queue is taken from it and served when its condition holds, and waits there otherwise; a packet that is not at the
head arrives now, and is served at once when the queue is empty and the condition holds. While the links are held
nothing is received (01 R13, 11 R192). -/
def State.handOver (l : Link) (p : Packet) (ready : State → Bool) (serve : State → State) (s : State) : State :=
  if s.time.domain = .run then
    match (s.port l).rx with
    | [] => if ready s then serve s else s.arrive l p
    | q :: rest =>
      if q = p then
        if ready s then serve (s.setPort l { s.port l with rx := rest }) else s
      else s.arrive l p
  else s

/-- Whether the P-link's transmit queue has `n` free places (10 R180, 11 R194). -/
def State.roomP (n : Nat) (s : State) : Bool := decide (s.plink.tx.length + n ≤ Config.txPlaces)

/-- Whether a module notice can be handed over (11 R193). -/
def State.roomS (s : State) : Bool := decide (s.slink.tx.length ≤ Config.slinkRoom)

/-! ### Records of the Shot Queue -/

/-- The oldest record of a state (04 R61). -/
def ShotQueue.oldest (q : ShotQueue) (st : RecState) : Option ShotRecord :=
  q.records.find? (fun r => decide (r.state = st))

/-- Whether some record is in a state. -/
def ShotQueue.has (q : ShotQueue) (st : RecState) : Bool := q.records.any (fun r => decide (r.state = st))

/-- Number of records in a state. -/
def ShotQueue.number (q : ShotQueue) (st : RecState) : Nat := q.records.countP (fun r => decide (r.state = st))

/-- The record that carries a tag (04 R62). -/
def ShotQueue.withTag (q : ShotQueue) (tag : Byte) : Option ShotRecord :=
  q.records.find? (fun r => decide (r.tag = tag))

/-- The record with a tag changed. -/
def ShotQueue.alter (q : ShotQueue) (tag : Byte) (f : ShotRecord → ShotRecord) : ShotQueue :=
  { q with records := q.records.map (fun r => if r.tag = tag then f r else r) }

/-- The record with a tag removed. -/
def ShotQueue.remove (q : ShotQueue) (tag : Byte) : ShotQueue :=
  { q with records := q.records.filter (fun r => !decide (r.tag = tag)) }

/-- Every record of a state put in another (04 R76). -/
def ShotQueue.moveAll (q : ShotQueue) (a b : RecState) : ShotQueue :=
  { q with records := q.records.map (fun r => if r.state = a then { r with state := b } else r) }

/-- Free slots (04 R61). -/
def State.freeSlots (s : State) : Nat := s.settings.capacity - s.queue.records.length

/-- Deadline of a record in ms: shutter rounded up to whole ms, plus the allowance (04 R72). -/
def deadlineMs (allowance : Nat) (r : ShotRecord) : Nat := (r.exposure.shutter + 999) / 1000 + allowance

/-- The deadline watch started afresh on the oldest ORDERED record, idle when there is none (04 R72). -/
def ShotQueue.watch (q : ShotQueue) (allowance : Nat) : ShotQueue :=
  { q with
    deadline := match q.oldest .ordered with
      | some r => Timer.start (deadlineMs allowance r)
      | none => .idle }

/-- The failure count rises, and the module fault latch is set at the FAULT LIMIT (04 R67, 07 R133). -/
def State.raiseFailures (s : State) : State :=
  let n := min Config.maxFailures (s.queue.failures + 1)
  { s with
    queue := { s.queue with failures := n }
    rails := { s.rails with moduleLatch := s.rails.moduleLatch || decide (s.settings.faultLimit ≤ n) } }

/-- Every record is removed and counted lost; watch, delivery timer and relay end (04 R65, R68). -/
def State.flush (s : State) : State :=
  let c := s.countMany .lost s.queue.records.length
  { c with queue := { s.queue with records := [], deadline := .idle, deliveryTimer := .idle, relay := .idle,
                                   relayLimit := .idle } }

/-! ### Scheduler items used by several blocks -/

/-- A shot in the pending slot is ended and counted skipped (02 R25). -/
def State.endPending (why : SkipReason) (s : State) : State :=
  match s.sched.slot with
  | none => s
  | some _ => let c := s.skip why
              { c with sched := { s.sched with slot := none } }

/-- Whether a scheduled, event or manual shot is forbidden (02 R22 stage 3, R29). -/
def State.protectedNow (s : State) : Bool :=
  decide (s.settings.captureMode = .off) || s.rails.moduleLatch || s.bandForbids

/-! ### The capture rail (07, section 7.2) -/

/-- Whether a starting source of the automatic demand is present (07 R127). -/
def State.starting (s : State) : Bool :=
  s.rails.warmUp || s.sched.slot.isSome || !s.queue.records.isEmpty || decide (s.queue.relay = .inProgress)

/-- The keep-warm source (07 R127). -/
def State.keepWarm (s : State) : Bool :=
  match s.rails.timeToNext with
  | none => false
  | some t => decide (t ≤ (s.settings.keepWarm : Int))

/-- The automatic demand evaluated at a presentation (07 R128). -/
def State.refreshDemand (s : State) : State :=
  { s with rails := { s.rails with demand := s.starting || (s.rails.demand && s.keepWarm) } }

/-- Level of the capture rail by the ownership chain (07 R126). -/
def State.captureLevel (s : State) : Bool :=
  decide (s.time.domain = .run) && !s.rails.moduleLatch && !s.bandForbids && !s.rails.cycleHold &&
    (match s.settings.captureMode with
     | .on => true
     | .off => false
     | .auto => s.rails.demand)

/-- The off edge of the capture rail: flush, module UNPOWERED, S-link lines emptied, a pending shot ended
(04 R68, 07 R132, 02 R25). -/
def State.captureOff (why : SkipReason) (s : State) : State :=
  let f := s.flush.endPending why
  State.refreshDemand
    { f with
      rails := { f.rails with capture := false }
      queue := { f.queue with module := .unpowered, bootTimer := .idle }
      slink := { f.slink with rx := [], tx := [] } }

/-- The on edge of the capture rail: module BOOTING under the boot limit (04 R63, 07 R132). -/
def State.captureOn (s : State) : State :=
  { s with
    rails := { s.rails with capture := true }
    queue := { s.queue with module := .booting, bootTimer := Timer.start s.settings.bootLimit } }

/-- The capture rail takes the level of its chain; `why` is the reason that an off edge gives a pending shot
(07 R126, R132). -/
def State.driveCapture (why : SkipReason) (s : State) : State :=
  if s.captureLevel = s.rails.capture then s
  else if s.captureLevel then s.captureOn
  else s.captureOff why

/-! ### The recorder rail and the heater -/

/-- Level of the recorder rail (07 R126, R134). -/
def State.recorderLevel (s : State) : Bool :=
  decide (s.time.domain = .run) && !decide (s.session.state = .off)

/-- Level of the heater by the ownership chain (07 R126, R139). -/
def State.heaterLevel (s : State) : Bool :=
  decide (s.time.domain = .run) && !s.queue.has .ordered && !s.meas.sagLatch && !s.tierBansHeat &&
    (match s.settings.heaterMode with
     | .on => true
     | .off => false
     | .auto => s.rails.phaseOn && decide (0 < s.rails.periodDuty))

/-- The recorder rail and the heater take the levels of their chains (07 R126). -/
def State.driveLoads (s : State) : State :=
  { s with rails := { s.rails with recorder := s.recorderLevel, heater := s.heaterLevel } }

/-- The three outputs off without evaluation: power-bad and RESET (07 R143, R144). -/
def Rails.held (r : Rails) : Rails :=
  { r with
    capture := false, recorder := false, heater := false, demand := false, cycleHold := false, warmUp := false,
    timeToNext := none, heaterPeriod := .idle, heaterOnPhase := .idle, phaseOn := false }

/-- A heater period start (07 R137). -/
def State.startHeaterPeriod (s : State) : State :=
  let d := s.bandDuty
  { s with
    rails :=
      { s.rails with
        heaterPeriod := Timer.startSeconds s.settings.heaterPeriod
        periodDuty := d
        phaseOn := decide (0 < d)
        heaterOnPhase :=
          if 0 < d ∧ d < 16 then Timer.start (d * s.settings.heaterPeriod * 1000 / 16) else .idle } }

/-! ### Measurement Unit -/

/-- The lowest-numbered pending channel (08 R149). -/
def Requests.first (r : Requests) : Option Channel :=
  if r.battery then some .battery
  else if r.temperature then some .temperature
  else if r.aux then some .aux
  else Option.none

/-- A channel's entry replaced. -/
def Requests.put (r : Requests) (c : Channel) (b : Bool) : Requests :=
  match c with
  | .battery => { r with battery := b }
  | .temperature => { r with temperature := b }
  | .aux => { r with aux := b }

/-- Requests merged into the set (08 R148). -/
def Requests.merge (a b : Requests) : Requests :=
  ⟨a.battery || b.battery, a.temperature || b.temperature, a.aux || b.aux⟩

/-- Requests enter the set (08 R148). -/
def State.request (r : Requests) (s : State) : State :=
  { s with meas := { s.meas with requests := s.meas.requests.merge r } }

/-- The request set after the measure period or a release (08 R151). -/
def Requests.periodic : Requests := ⟨true, true, false⟩

/-- The arbiter tests its conditions and starts a conversion when they hold (08 R149). -/
def State.arbitrate (s : State) : State :=
  match s.time.domain, s.meas.converting, s.meas.blanking, s.meas.requests.first with
  | .run, none, .idle, some c =>
    { s with meas := { s.meas with converting := some c, conversion := Timer.start Config.conversionMs,
                                   requests := s.meas.requests.put c false } }
  | _, _, _, _ => s

/-- A conversion under way is spoiled (08 R154). -/
def State.spoil (s : State) : State :=
  match s.meas.converting with
  | none => s
  | some c =>
    let k := s.count .spoiledConversions
    { k with meas := { s.meas with converting := none, conversion := .idle,
                                   requests := s.meas.requests.put c true } }

/-- The blanking window started or restarted; nothing at BLANK LENGTH 0 (08 R153). -/
def State.openBlanking (s : State) : State :=
  if s.settings.blankLength = 0 then s
  else { s with meas := { s.meas with blanking := Timer.start s.settings.blankLength } }

/-- Kinds of the edges between two states of the outputs (07 R141). -/
def outputEdges (a b : Rails) : List EdgeKind :=
  (if a.capture = b.capture then [] else [if b.capture then EdgeKind.captureOn else .captureOff]) ++
  (if a.recorder = b.recorder then [] else [if b.recorder then EdgeKind.recorderOn else .recorderOff]) ++
  (if a.heater = b.heater then [] else [if b.heater then EdgeKind.heaterOn else .heaterOff])

/-- The edges of an event are reported; a selected one opens the window and spoils a conversion (07 R141, R142,
08 R153, R154). The arbiter tests after a spoil. -/
def State.reportEdges (before s : State) : State :=
  if (outputEdges before.rails s.rails).any (fun k => s.settings.blankEdges.contains k) then
    s.openBlanking.spoil.arbitrate
  else s

/-- Whether the blanking window is closed (08 R153). -/
def State.windowClosed (s : State) : Bool := decide (s.meas.blanking = .idle)

/-- The three conditions of a sag trip beside the event (08 R157). -/
def State.tripPossible (s : State) : Bool := s.meas.tripped && s.settings.sagEnable && s.windowClosed

/-- A sag trip's own changes (08 R157); the heater and the arbiter follow at the end of the event. -/
def State.takeTrip (s : State) : State :=
  let k := s.count .sagTrips
  State.flagSag
    { k with meas := { s.meas with sagLatch := true, requests := { s.meas.requests with battery := true } } }

/-- The comparator's level after a sample of VBAT in mV (08 R156). -/
def comparatorLevel (threshold : Nat) (was : Bool) (vbat : Nat) : Bool :=
  if vbat < threshold then true
  else if threshold + Config.sagMargin ≤ vbat then false
  else was

/-- In CYCLE mode a due scheduled shot clears the sag latch when the comparator is released (08 R158). -/
def State.clearSagAtShot (s : State) : State :=
  match s.settings.sagMode, s.meas.tripped with
  | .cycle, false => { s with meas := { s.meas with sagLatch := false } }
  | _, _ => s

/-- The values of power-bad entry and of RESET (08 R146, R163). -/
def Measurement.held (m : Measurement) : Measurement :=
  { m with
    converting := none, conversion := .idle, requests := Requests.none, measurePeriod := .idle,
    blanking := .idle, sagLatch := false }

/-- The release of the main domain or a power-bad return: measure period started, BATTERY and TEMPERATURE pending,
comparator to be sampled afresh (08 R151, R156; log 6). -/
def State.startMeasuring (s : State) : State :=
  { s with
    meas := { s.meas with requests := Requests.periodic
                          measurePeriod := Timer.startSeconds s.settings.measurePeriod
                          tripped := false } }

/-! ### Wake demand and its gates (05 R98 to R102) -/

/-- Age of the oldest HELD record, when one is HELD (05 R97). -/
def State.heldAge (s : State) : Option Nat :=
  (s.queue.oldest .held).map (fun r => s.time.age (r.heldSince.getD s.time.calendar))

/-- Wake demand (05 R98, R99). -/
def State.wakeDemand (s : State) : Bool :=
  let held := s.queue.number .held
  let batch := s.tierRow.any (fun r => decide (r.batch ≤ held))
  let age := s.tierRow.any (fun r => s.heldAge.any (fun a => decide (r.holdLimit ≤ a)))
  let full := decide (s.queue.records.length = s.settings.capacity) && decide (0 < held)
  batch || age || full

/-- The four gates of an automatic wake (05 R101). -/
def State.gatesOpen (s : State) : Bool :=
  s.pins.supok && decide (s.session.restTimer = .idle) &&
    s.tierRow.any (fun r => decide (r.allowance = Config.unlimitedAllowance) ||
      decide (s.session.wakesToday.toNat < r.allowance)) &&
    !decide (s.meas.tier = .unset)

/-- An automatic wake (05 R102, 06 R107). -/
def State.wake (s : State) : State :=
  { s with session := { s.session with state := .waking, wakesToday := satInc s.session.wakesToday,
                                       readyTimer := Timer.startSeconds s.settings.readyTimeout } }

/-- The evaluation of wake demand and gates, made while the session is OFF and the domain is RUN (05 R100). -/
def State.evaluateWake (s : State) : State :=
  if s.time.domain = .run ∧ s.session.state = .off ∧ s.wakeDemand ∧ s.gatesOpen then s.wake else s

/-! ### Sessions (06) -/

/-- An open load transaction is abandoned (09 R172). -/
def State.abandonLoad (s : State) : State := { s with store := s.store.abandon }

/-- Every session end that leaves the session OFF. Packets left in the P-link receive queue are discarded, each counted
out-of-session (06 R122), before the wake demand is evaluated: a wake of the same event, at REST SPAN 0, takes no READY among
them (log 34). -/
def State.endSession (s : State) : State :=
  State.evaluateWake
    { s.countMany .outOfSession s.plink.rx.length with
      store := s.store.abandon
      plink := { s.plink with rx := [], tx := [] }
      session :=
        { s.session with
          state := .off
          readyTimer := .idle, awakeTimer := .idle, offerTimer := .idle, offerSent := false, timeouts := 0
          restTimer := Timer.startSeconds s.settings.restSpan } }

/-- A forced sleep (06 R121). -/
def State.forceSleep (s : State) : State :=
  let q := (s.queue.moveAll .offered .held).moveAll .releasing .held
  let c := (s.count .forcedSleeps).flagForcedSleep
  State.endSession { c with queue := { q with deliveryTimer := .idle } }

/-- Whether the offer test holds (06 R112). -/
def State.mayOffer (s : State) : Bool :=
  decide (s.session.state = .awake) && !s.queue.has .offered && !s.queue.has .releasing

/-- The record the offer test finds (06 R112). -/
def State.offerCandidate (s : State) : Option ShotRecord :=
  if s.mayOffer then s.queue.oldest .held else none

/-- A record becomes OFFERED, with its offer timer and offer sent no (06 R112); the OFFER is sent apart. -/
def State.beginOffer (r : ShotRecord) (s : State) : State :=
  { s with
    queue := s.queue.alter r.tag (fun x => { x with state := .offered })
    session := { s.session with offerTimer := Timer.start s.settings.offerWindow, offerSent := false } }

/-- The offer test, with the offer when it holds (06 R112). -/
def State.offerTest (s : State) : State :=
  match s.offerCandidate with
  | none => s
  | some r => (s.beginOffer r).sendP (offerPacket r)

/-- The offer timer is cancelled when no record is OFFERED any more (06 R112, 04 R78). -/
def State.cancelOffer (s : State) : State :=
  if s.queue.has .offered then s
  else { s with session := { s.session with offerTimer := .idle } }

/-- What the session does at the end of an event: the offer test in AWAKE, the end of CLOSING once no record is
RELEASING, the evaluation of wake demand in OFF (06 R112, R120, 05 R100). -/
def State.sessionAfter (s : State) : State :=
  match s.session.state with
  | .awake => s.cancelOffer.offerTest
  | .closing => if s.queue.has .releasing then s else s.endSession
  | .off => s.evaluateWake
  | .waking => s

/-! ### Closing an event (log 7) -/

/-- The end of an event that touches only the recorder rail and the heater: levels, then edge reports. -/
def State.concludeLoads (before s : State) : State := State.reportEdges before s.driveLoads

/-- The end of an event that may move the capture rail: capture rail with its flush, session, other outputs, edge
reports. -/
def State.conclude (why : SkipReason) (before s : State) : State :=
  State.concludeLoads before (s.driveCapture why).sessionAfter

/-- The end of an event that makes a presentation to the Rail Controller (07 R127). -/
def State.settle (why : SkipReason) (before s : State) : State := State.conclude why before s.refreshDemand

end Sys2Proof.Machine
end

