-- ==== Sys2Proof/Machine/Status.lean ====
section
/-! DEFINITION. The STATUS report (10 R189, R190, 11 R196) and the clearing of the input change flags it carries. -/

namespace Sys2Proof.Machine

/-- Kind code of STATUS. -/
def statusKind : Byte := 0x20

/-- An optional field. -/
def optionalBytes {α : Type} (f : α → List Byte) : Option α → List Byte
  | none => []
  | some a => f a

/-- Part 0 (11 R196): time, scheduler, ramp, tier, results. -/
def State.statusPart0 (s : State) : Packet :=
  let presence := s.sched.window.isSome.toNat + 2 * s.sched.slot.isSome.toNat
    + 4 * s.meas.lastBattery.isSome.toNat + 8 * s.meas.lastTemperature.isSome.toNat
    + 16 * s.meas.lastAux.isSome.toNat
  ⟨statusKind,
    [0] ++ word32Bytes s.time.calendar ++ bytesBE 2 s.time.phase ++ bytesBE 3 s.time.secondOfDay
      ++ [byteOf s.sched.state.code] ++ bytesBE 3 s.sched.elapsed
      ++ bytesBE 2 s.ramp.position ++ word16Bytes s.ramp.generation ++ intBE 1 s.ramp.lastCorrection
      ++ [byteOf s.meas.tier.code, byteOf s.meas.tripped.toNat, byteOf (!s.windowClosed).toNat, byteOf presence]
      ++ optionalBytes (fun w => [byteOf w]) s.sched.window
      ++ optionalBytes (fun p : PendingShot => byteOf p.kind.code :: word32Bytes p.fellDue) s.sched.slot
      ++ optionalBytes (fun v => bytesBE 2 v) s.meas.lastBattery
      ++ optionalBytes (fun v => intBE 2 v) s.meas.lastTemperature
      ++ optionalBytes (fun v => bytesBE 2 v) s.meas.lastAux⟩

/-- The active override sources (07 R145). -/
def State.overrideByte (s : State) : Nat :=
  s.rails.moduleLatch.toNat + 2 * s.bandForbids.toNat + 4 * (s.queue.has .ordered).toNat
    + 8 * s.meas.sagLatch.toNat + 16 * s.tierBansHeat.toNat

/-- Part 1 (11 R196): queue, session, rails, flags. -/
def State.statusPart1 (s : State) : Packet :=
  let presence := s.queue.faultCode.isSome.toNat + 2 * s.retention.lastKeptCenter.isSome.toNat
    + 4 * s.rails.band.isSome.toNat
  ⟨statusKind,
    [1, byteOf (s.queue.number .ordered), byteOf (s.queue.number .held), byteOf (s.queue.number .offered),
        byteOf (s.queue.number .releasing), byteOf s.queue.module.code, byteOf s.queue.failures,
        byteOf s.queue.relay.code, byteOf s.session.state.code]
      ++ word16Bytes s.session.wakesToday
      ++ [byteOf (s.rails.capture.toNat + 2 * s.rails.recorder.toNat + 4 * s.rails.heater.toNat),
          byteOf s.settings.captureMode.code, byteOf s.settings.heaterMode.code, byteOf s.overrideByte,
          byteOf s.rails.cycleHold.toNat, byteOf (s.rails.moduleLatch.toNat + 2 * s.meas.sagLatch.toNat),
          byteOf s.rails.phaseOn.toNat, byteOf s.flags.byte, byteOf s.inputs.byte, byteOf presence]
      ++ optionalBytes (fun c => [c]) s.queue.faultCode
      ++ optionalBytes (fun c => [c]) s.retention.lastKeptCenter
      ++ optionalBytes (fun b => [byteOf b, byteOf s.bandDuty, byteOf (!s.bandForbids).toNat]) s.rails.band⟩

/-- Part 2 (11 R196): the Table Store. -/
def State.statusPart2 (s : State) : Packet :=
  let st := s.store
  let presence := st.load.isSome.toNat + 2 * st.commit.isSome.toNat
  ⟨statusKind,
    [2] ++ st.window.statusBytes ++ st.program.statusBytes ++ st.ladder.statusBytes ++ st.correction.statusBytes
      ++ st.retention.statusBytes ++ st.tier.statusBytes ++ st.thermal.statusBytes ++ [byteOf presence]
      ++ optionalBytes (fun t : Transaction => [byteOf t.table.code, byteOf t.received]) st.load
      ++ optionalBytes (fun c : PendingCommit => [byteOf (bitsOf Table.code c.tables), byteOf c.point.code])
          st.commit⟩

/-- The values of counters, two bytes each. -/
def Counters.bytes (cs : Counters) (ks : List Counter) : List Byte := ks.flatMap (fun k => word16Bytes (cs.value k))

/-- Part 3 (11 R196). -/
def State.statusPart3 (s : State) : Packet := ⟨statusKind, 3 :: s.counters.bytes Counters.part3⟩

/-- Part 4 (11 R196). -/
def State.statusPart4 (s : State) : Packet := ⟨statusKind, 4 :: s.counters.bytes Counters.part4⟩

/-- The five packets of a STATUS report, in part order (10 R189). -/
def State.statusReport (s : State) : List Packet :=
  [s.statusPart0, s.statusPart1, s.statusPart2, s.statusPart3, s.statusPart4]

/-- A STATUS report is built from the state and handed to the P-link, and the input change flags it carries are
cleared (10 R188, R189). -/
def State.sendStatus (s : State) : State :=
  { s.sendAllP s.statusReport with inputs := InputFlags.clear }

/-- The offer test at READY: the report shows the offer that the event makes, and stands ahead of its OFFER
(06 R110, R118, 10 R189). -/
def State.statusThenOffer (s : State) : State :=
  match s.offerCandidate with
  | none => s.sendStatus
  | some r => (s.beginOffer r).sendStatus.sendP (offerPacket r)

end Sys2Proof.Machine
end

