-- ==== Sys2Proof/Machine/Schedule.lean ====
section
/-! DEFINITION. The Shot Scheduler's shared operations: presentation (02 R26), numbers and issue (02 R30, 04 R70), the
handling of due shots (02 R22 to R25), window entries (02 R20, R21) and swaps (09 R174, R177). -/

namespace Sys2Proof.Machine

/-! ### Presentation (02 R26) -/

/-- Time to the next scheduled shot (02 R26), by the stretch in force when it is presented: at a tick whose swap changes
the tier, the new one (log 30). -/
def State.nextShotIn (s : State) : Option Int :=
  match s.sched.state with
  | .stopped => none
  | .running => if s.suspended then none else s.effectiveInterval.map (fun e => (e : Int) - (s.sched.elapsed : Int))

/-- Whether the warm-up demand is present for a time to the next shot (02 R26). -/
def warmUpFor (warmUp : Nat) : Option Int → Bool
  | none => false
  | some t => decide (0 < warmUp) && decide (t ≤ (warmUp : Int))

/-- The two values are computed and presented; a warm-up demand present after being absent clears the cycle hold
(02 R26, 07 R131). -/
def State.present (s : State) : State :=
  let t := s.nextShotIn
  let w := warmUpFor s.settings.warmUp t
  { s with rails := { s.rails with timeToNext := t, warmUp := w,
                                   cycleHold := s.rails.cycleHold && !(w && !s.rails.warmUp) } }

/-! ### Issue (04 R70) -/

/-- One shot of an issue request: role, bracket offset, position and, for a CENTER, the generation (03 R41). -/
structure ShotSpec where
  role : Role
  offset : Option Int
  position : Nat
  generation : Option Word16
deriving DecidableEq, Repr

/-- The shots of a scheduled shot: the bracket of the current window's program (02 R22, 03 R44). -/
def State.bracketSpecs (s : State) : List ShotSpec :=
  match s.currentProgram with
  | none => []
  | some p =>
    let c := s.centerPosition p
    (memberOffsets p.bracketCount).map (fun o =>
      if o = 0 then ⟨.center, some 0, c, some s.ramp.generation⟩
      else ⟨.member, some o, memberPosition s.ladder p c o, none⟩)

/-- The single shot of an EVENT (03 R45). -/
def State.eventSpecs (s : State) : List ShotSpec :=
  match s.currentProgram with
  | none => []
  | some p => [⟨.event, none, s.centerPosition p, none⟩]

/-- The single shot of a MANUAL (03 R46). -/
def State.manualSpecs (rung : Option Nat) (s : State) : List ShotSpec :=
  let q := match rung with
    | some r => clampToLadder s.ladder (r : Int)
    | none => s.ramp.position
  [⟨.manual, none, q, none⟩]

/-- The shots of a pending shot at its issue (02 R24). -/
def State.specsOf (p : PendingShot) (s : State) : List ShotSpec :=
  match p.kind with
  | .scheduled => s.bracketSpecs
  | .event => s.eventSpecs
  | .manual => s.manualSpecs p.rung

/-- The next number whose tag is not in use (02 R30). -/
def skipTags (used : List Byte) : Nat → Word32 → Word32
  | 0, n => n
  | fuel + 1, n => if used.contains (n.setWidth 8) then skipTags used fuel (n + 1) else n

/-- The numbers given to `k` records, in member order (02 R30). -/
def giveNumbers (used : List Byte) : Nat → Word32 → List Word32
  | 0, _ => []
  | k + 1, n =>
    let m := skipTags used used.length n
    m :: giveNumbers (m.setWidth 8 :: used) k (m + 1)

/-- The counter after numbers have been given (02 R30). -/
def counterAfter (numbers : List Word32) (n : Word32) : Word32 :=
  match numbers.getLast? with
  | none => n
  | some m => m + 1

/-- A record at its creation (04 R59, R70). -/
def State.newRecord (s : State) (sp : ShotSpec) (n : Word32) : ShotRecord where
  number := n
  role := sp.role
  offset := sp.offset
  indices := s.currentIndices
  generation := sp.generation
  exposure := exposureAt s.ladder (sp.position : Int)
  orderedAt := s.time.now
  strobe := none
  facts := none
  heldSince := none
  failures := 0
  state := .ordered

/-- The numbers an issue of these shots gives. -/
def State.issueNumbers (s : State) (specs : List ShotSpec) : List Word32 :=
  giveNumbers (s.queue.records.map (·.tag)) specs.length s.sched.nextNumber

/-- The records an issue of these shots creates. -/
def State.issueRecords (s : State) (specs : List ShotSpec) : List ShotRecord :=
  List.zipWith s.newRecord specs (s.issueNumbers specs)

/-- An issue (04 R70): records, EXPOSEs and, when no record was ORDERED, the deadline watch. -/
def State.issue (specs : List ShotSpec) (s : State) : State :=
  let recs := s.issueRecords specs
  let q := { s.queue with records := s.queue.records ++ recs }
  { s with
    sched := { s.sched with nextNumber := counterAfter (s.issueNumbers specs) s.sched.nextNumber }
    queue := if s.queue.has .ordered then q else q.watch s.settings.exposureAllowance
    slink := { s.slink with tx := s.slink.tx ++ recs.map (fun r => exposePacket r.tag r.exposure r.role) } }

/-- The shots are issued when the free slots suffice, else the shot is skipped BUFFER_FULL (02 R22 stage 4, R24). -/
def State.issueOrSkip (specs : List ShotSpec) (s : State) : State :=
  if specs.length ≤ s.freeSlots then s.issue specs else s.skip .bufferFull

/-! ### Pending slot (02 R23) -/

/-- A shot enters the pending slot, which clears the cycle hold (02 R23, 07 R131). -/
def State.fillSlot (p : PendingShot) (s : State) : State :=
  { s with
    sched := { s.sched with slot := some p }
    rails := { s.rails with cycleHold := false } }

/-- The pending shot is issued at HELLO, or skipped BUFFER_FULL; the slot is empty afterwards (02 R24). -/
def State.issuePending (s : State) : State :=
  match s.sched.slot with
  | none => s
  | some p =>
    State.issueOrSkip (s.specsOf p) { s with sched := { s.sched with slot := none } }

/-- Stages 3 to 5 of a due shot in RUN (02 R22); an event shot takes the same stages. -/
def State.handleShot (kind : PendingKind) (s : State) : State :=
  if s.protectedNow then s.skip .protection
  else
    let p : PendingShot := ⟨kind, s.time.calendar, none⟩
    match s.queue.module with
    | .ready => s.issueOrSkip (s.specsOf p)
    | _ => if s.sched.slot.isSome then s.skip .late else s.fillSlot p

/-- A shot that has fallen due or been raised, by the supply-domain state (02 R19, R22, R27, R35). `suspended` is
whether the tier's stretch was SUSPEND when the shot fell due (log 8). -/
def State.takeDueShot (kind : PendingKind) (suspended : Bool) (s : State) : State :=
  if suspended then s.skip .suspended
  else
    match s.time.domain with
    | .run => s.handleShot kind
    | _ => s.skip .power

/-! ### Window entries (02 R20, R21) -/

/-- The window selected from the second of day, while RUNNING (02 R15, R21). -/
def State.selectWindow (s : State) : State :=
  match s.sched.state with
  | .running => { s with sched := { s.sched with window := windowAt s.windows s.time.secondOfDay } }
  | .stopped => s

/-- A silent entry, or the entry by START or warm reset: selection and ramp clamp (02 R16, R21, 03 R54). -/
def State.enterSilently (s : State) : State :=
  match s.sched.state with
  | .running => s.selectWindow.entryClamp
  | .stopped => s

/-- The row entered by passing time becomes current, with the ramp clamp (02 R20, 03 R54). -/
def State.enterRow (i : Nat) (s : State) : State :=
  State.entryClamp { s with sched := { s.sched with window := some i } }

/-! ### Swaps (09 R174, R177) -/

/-- The tier after a swap of the tier bank (08 R161). -/
def State.tierAfterSwap (s : State) : Tier :=
  match s.meas.lastBattery with
  | none => s.meas.tier
  | some v => evaluateTier s.store.tier.active.rows s.meas.tier v

/-- The exchange and its effects on retention, tier and thermal band (05 R94, 08 R161, 07 R136). -/
def State.exchangeTables (tables : List Table) (s : State) : State :=
  let x := { s with store := { s.store.exchange tables with commit := none } }
  { x with
    retention := if tables.contains .retention then
        { x.retention with decimation := List.replicate x.store.retention.active.rows.length 0 }
      else x.retention
    meas := if tables.contains .tier then { x.meas with tier := x.tierAfterSwap } else x.meas
    rails := if tables.contains .thermal then { x.rails with band := x.selectedBand } else x.rails }

/-- The Ramp Unit's part of a swap: one increase of the generation in the event (03 R54 to R56; log 9). -/
def State.rampAfterSwap (tables : List Table) (s : State) : State :=
  if tables.contains .ladder || tables.contains .program then s.swapClamp
  else if tables.contains .window then
    match s.sched.state with
    | .running => s.entryClamp
    | .stopped => s
  else s

/-- A swap with all its effects but the evaluations at the end of the event (09 R174, R177). -/
def State.swap (tables : List Table) (s : State) : State :=
  let x := s.exchangeTables tables
  State.rampAfterSwap tables (if tables.contains .window then x.selectWindow else x)

/-- The pending commit is made when its point is one of those named (09 R175). -/
def State.makeCommit (points : List CommitPoint) (s : State) : State :=
  match s.store.commit with
  | none => s
  | some c => if points.contains c.point then s.swap c.tables else s

/-! ### A scheduled shot falls due (02 R18 stage 4, R22, R32) -/

/-- Elapsed becomes 0, the sag latch may clear, a NEXT_SHOT commit is made, and the shot is handled. The swap's increase of
the generation is its own, beside that of an entry made earlier in the tick (03 R54 to R56; log 9). -/
def State.scheduledShotDue (s : State) : State :=
  let z := State.clearSagAtShot { s with sched := { s.sched with elapsed := 0 } }
  (z.makeCommit [.nextShot]).takeDueShot .scheduled z.suspended

end Sys2Proof.Machine
end

