-- ==== Sys2Proof/Machine/Supply.lean ====
section
/-! DEFINITION. Supply domains (01, section 1.5): cold start, RESET, warm reset, power-bad, and changes of SUPOK. -/

namespace Sys2Proof.Machine

/-- The main domain's items at power-bad entry and at the entry into RESET: outputs off, records lost, session OFF,
converter stopped, transaction abandoned, pending commit cancelled, links idle (01 R13, 04 R84, 06 R105, 07 R143,
R144, 08 R163, 09 R172, R176, 11 R192, R194; log 17). -/
def State.holdMain (s : State) : State :=
  let f := s.flush
  { f with
    queue := { f.queue with module := .unpowered, bootTimer := .idle }
    session := { s.session with
                 state := .off, readyTimer := .idle, awakeTimer := .idle, offerTimer := .idle, restTimer := .idle
                 offerSent := false, timeouts := 0 }
    rails := s.rails.held
    meas := s.meas.held
    store := { s.store.abandon with commit := none }
    plink := Port.cleared
    slink := Port.cleared }

/-- The supply-domain state replaced. -/
def State.enterDomain (d : Domain) (s : State) : State := { s with time := { s.time with domain := d } }

/-- The rest span started (06 R105, R123). -/
def State.startRest (s : State) : State :=
  { s with session := { s.session with restTimer := Timer.startSeconds s.settings.restSpan } }

/-- The main domain starts in RUN: rest span, first heater period, measurement (06 R105, 07 R137, 08 R151). -/
def State.startMain (s : State) : State :=
  s.startRest.startHeaterPeriod.startMeasuring

/-- The presentations and evaluations at a release or a return (02 R26, 07 R143, R144, 08 R163). -/
def State.finishStart (before s : State) : State :=
  (State.settle .protection before s.present).arbitrate

/-- Power-bad entry (01 R13). -/
def State.powerBadEntry (s : State) : State := (s.holdMain.endPending .power).enterDomain .powerBad

/-- Power-bad return (01 R13). -/
def State.powerBadReturn (s : State) : State :=
  let r := s.enterDomain .run
  State.finishStart r r.startMain

/-- SUPOK is seen at a level, a change (10 R188). -/
def State.seeSupok (level : Bool) (s : State) : State :=
  { s with pins := { s.pins with supok := level }, inputs := { s.inputs with supok := true } }

/-- SUPOK is seen at a level: a change sets the input change flag and moves the supply-domain state
(01 R11, 10 R188). -/
def State.supokSeen (level : Bool) (s : State) : State :=
  if s.pins.supok = level then s
  else
    let c := s.seeSupok level
    match s.time.domain, level with
    | .run, false => c.powerBadEntry
    | .powerBad, true => c.powerBadReturn
    | _, _ => c

/-- The backup items named in R10 and the items with a warm-reset value, in the domain entered (01 R12, 02 R34,
04 R84, 05 R86). -/
def State.warmValues (d : Domain) (s : State) : State :=
  let e := (s.endPending .power).enterDomain d
  { e with
    queue := { e.queue with failures := 0, faultCode := none }
    retention := { e.retention with decimation := List.replicate e.store.retention.active.rows.length 0 }
    sched := { e.sched with
               state := if e.settings.autorun && e.store.allValid then .running else .stopped
               window := none
               elapsed := 0 } }

/-- The entry and the due shot of a warm reset into RUNNING (02 R34). -/
def State.warmEntry (s : State) : State :=
  match s.sched.state with
  | .running =>
    let e := s.enterSilently
    e.takeDueShot .scheduled e.suspended
  | .stopped => s

/-- The release of the main domain with SUPOK high: RUN (01 R12, 02 R34). -/
def State.releaseToRun (s : State) : State :=
  let w := s.warmValues .run
  State.finishStart w w.startMain.warmEntry

/-- The release of the main domain with SUPOK low: POWER_BAD (01 R12, 02 R34; log 18). -/
def State.releaseToPowerBad (s : State) : State := (s.warmValues .powerBad).warmEntry

/-! ### The commands -/

/-- COLD_START (01 R12). -/
def execColdStart (s : State) : StepResult := .next { State.reset with pending := s.pending }

/-- RESET_ENTRY (01 R11, R12). -/
def execResetEntry (s : State) : StepResult :=
  .next (if s.time.domain = .reset then s else s.holdMain.enterDomain .reset)

/-- WARM_RESET (01 R12, 02 R34). -/
def execWarmReset (s : State) : StepResult :=
  .next (if s.time.domain = .reset then
      if s.pins.supok then s.releaseToRun else s.releaseToPowerBad
    else s)

/-- POWER_BAD_ENTRY (01 R13): SUPOK is seen low. -/
def execPowerBadEntry (s : State) : StepResult := .next (s.supokSeen false)

/-- POWER_BAD_RETURN (01 R13): SUPOK is seen high. -/
def execPowerBadReturn (s : State) : StepResult := .next (s.supokSeen true)

/-- SUPOK_CHANGE_IN_RESET (01 R11): in RESET, SUPOK is seen at its other level. -/
def execSupokChangeInReset (s : State) : StepResult :=
  .next (if s.time.domain = .reset then s.supokSeen (!s.pins.supok) else s)

end Sys2Proof.Machine
end

