-- ==== Sys2Proof/Machine/Ticks.lean ====
section
/-! DEFINITION. The Time Base's events (01 R1 to R4, R7) and the Scheduler's tick (02 R18 to R20). -/

namespace Sys2Proof.Machine

/-- A change of the day number sets wakes-today to 0, in every supply-domain state (01 R4, 05 R103). -/
def State.rollover (before : TimeBase) (s : State) : State :=
  if before.dayNumber = s.time.dayNumber then s
  else { s with session := { s.session with wakesToday := 0 } }

/-- Whether elapsed has reached the effective interval (02 R18 stage 3). -/
def State.intervalReached (s : State) : Bool :=
  match s.effectiveInterval with
  | none => false
  | some e => decide (e ≤ s.sched.elapsed)

/-- The row whose start is the present second of day (02 R20). -/
def State.startingRow (s : State) : Option Nat := windowStarting s.windows s.time.secondOfDay

/-- The entry test of a tick (02 R18 stage 2, R20): a NEXT_WINDOW commit is made first; a new table without a row
that starts now has entered silently in the swap. -/
def State.passingEntry (s : State) : State :=
  match s.startingRow with
  | none => s
  | some _ =>
    let m := s.makeCommit [.nextWindow]
    match m.startingRow with
    | none => m
    | some i => m.enterRow i

/-- Whether the tick's entry honours shoot-at-start (02 R20). -/
def State.shootsAtEntry (s : State) : Bool :=
  match s.startingRow with
  | none => false
  | some _ =>
    let m := s.makeCommit [.nextWindow]
    match m.startingRow with
    | none => false
    | some i => (m.windows[i]?).any (·.shootAtStart)

/-- Stage 1 of a tick (02 R18). -/
def State.countElapsed (s : State) : State := { s with sched := { s.sched with elapsed := s.sched.elapsed + 1 } }

/-- Stages 1 and 2 of a tick (02 R18). `wrapped`: the tick of the calendar wrap, which is a clock-set notice and no
entry by passing time (01 R7). Stage 3 of that same tick compares with the window selected here (log 29). -/
def State.tickEntry (wrapped : Bool) (s : State) : State :=
  if wrapped then s.countElapsed.enterSilently else s.countElapsed.passingEntry

/-- Whether a scheduled shot falls due at a tick, by entry or by comparison (02 R18 stages 2 and 3); the comparison is
with the window that stage 2 leaves, at the calendar wrap too (log 29). -/
def State.dueAtTick (wrapped : Bool) (s : State) : Bool :=
  (!wrapped && s.countElapsed.shootsAtEntry) || (s.tickEntry wrapped).intervalReached

/-- Stages 1 to 4 of a tick at the Scheduler (02 R18). The entry of stage 2 and a NEXT_SHOT swap of stage 4 each advance the
generation by their own rule (03 R54 to R56; log 9). -/
def State.schedulerTick (wrapped : Bool) (s : State) : State :=
  match s.sched.state with
  | .stopped => s
  | .running => if s.dueAtTick wrapped then (s.tickEntry wrapped).scheduledShotDue else s.tickEntry wrapped

/-- The calendar and the phase at a tick, with the rollover (01 R1, R4, R7). It stands before the tick's own evaluation of wake
demand, so that a wake of the same tick counts in the new day (log 31). -/
def State.advanceSecond (s : State) : State :=
  State.rollover s.time
    { s with time := { s.time with calendar := s.time.calendar + 1, phase := 0 } }

/-- Whether the tick is the calendar wrap (01 R7). -/
def State.wraps (s : State) : Bool := decide (s.time.calendar = 0xFFFFFFFF)

/-- A second tick with what its receivers do (01 R3, 02 R18, 05 R100, 07 R127). -/
def State.secondTick (s : State) : State :=
  let t := (s.ageTimers (Config.msPerSecond - s.time.phase)).advanceSecond
  match s.time.domain with
  | .reset => t
  | .powerBad => t.schedulerTick s.wraps
  | .run => State.settle .protection t (t.schedulerTick s.wraps).present

/-- A millisecond edge (01 R1): one that takes the phase to 1,000 completes the second. -/
def State.millisecond (s : State) : State :=
  if s.time.phase + 1 < Config.msPerSecond then
    let a := s.ageTimers 1
    { a with time := { s.time with phase := s.time.phase + 1 } }
  else s.secondTick

/-! ### The commands -/

/-- SECOND_TICK (01 R3; log 3). -/
def execSecondTick (s : State) : StepResult := .next s.secondTick

/-- MILLISECOND_EDGE (01 R1; log 3). -/
def execMillisecondEdge (s : State) : StepResult := .next s.millisecond

/-- REFRACTORY_EXPIRY (02 R28). -/
def execRefractoryExpiry (s : State) : StepResult :=
  .next (if s.sched.refractory.due then { s with sched := { s.sched with refractory := .idle } } else s)

end Sys2Proof.Machine
end

