-- ==== Sys2Proof/Machine/Inputs.lean ====
section
/-! DEFINITION. The logic inputs (02 R27, 04 R71, 06 R108, 10 R188) and the sag comparator (08 R156, R157). -/

namespace Sys2Proof.Machine

/-- Whether an activation of TRIG raises an event shot (02 R27). -/
def State.raisesEvent (s : State) : Bool :=
  s.settings.triggerEnable && decide (s.sched.state = .running) && s.currentWindow.any (·.events) &&
    decide (s.sched.refractory = .idle) && !decide (s.time.domain = .reset)

/-- The refractory timer restarted (02 R27, R28). -/
def State.startRefractory (s : State) : State :=
  { s with sched := { s.sched with refractory := Timer.startSeconds s.settings.refractory } }

/-- Whether the pending slot, the number of records or the relay has changed since a state: a presentation of
07 R127. -/
def State.presentsSince (before s : State) : Bool :=
  !decide (s.sched.slot.isSome = before.sched.slot.isSome) ||
    !decide (s.queue.records.length = before.queue.records.length) ||
    !decide (s.queue.relay = before.queue.relay)

/-- The end of an event that presents to the Rail Controller only when one of those has changed. -/
def State.settleIfPresented (why : SkipReason) (before s : State) : State :=
  if State.presentsSince before s then State.settle why before s else State.conclude why before s

/-- TRIG is seen at a level, a change (10 R188). -/
def State.seeTrig (level : Bool) (s : State) : State :=
  { s with pins := { s.pins with trig := level }, inputs := { s.inputs with trig := true } }

/-- SERVICE is seen at a level, a change (10 R188). -/
def State.seeService (level : Bool) (s : State) : State :=
  { s with pins := { s.pins with service := level }, inputs := { s.inputs with service := true } }

/-- TRIG goes active (02 R27). -/
def State.trigActive (s : State) : State :=
  let c := s.seeTrig false
  if c.raisesEvent then
    let h := (c.takeDueShot .event c.suspended).startRefractory
    match s.time.domain with
    | .run => State.settleIfPresented .protection s h
    | _ => h
  else c

/-- Whether a press of SERVICE begins a wake (06 R108). -/
def State.serviceWakes (s : State) : Bool :=
  decide (s.time.domain = .run) && decide (s.session.state = .off) && s.settings.serviceEnable && s.pins.supok

/-- A service wake (06 R108). -/
def State.serviceWake (s : State) : State :=
  let c := s.count .serviceWakes
  { c with session := { s.session with state := .waking, restTimer := .idle,
                                       readyTimer := Timer.startSeconds s.settings.readyTimeout } }

/-- SERVICE goes active (06 R108, R109). -/
def State.serviceActive (s : State) : State :=
  let c := s.seeService false
  if c.serviceWakes then State.concludeLoads s c.serviceWake else c

/-- The oldest ORDERED record without a strobe stamp takes the stamp (04 R71). -/
def stampFirst (now : Stamp) : List ShotRecord → List ShotRecord
  | [] => []
  | r :: rs =>
    if r.state = .ordered ∧ r.strobe = none then { r with strobe := some now } :: rs
    else r :: stampFirst now rs

/-- The comparator's level as sampled. -/
def State.seeComparator (level : Bool) (s : State) : State := { s with meas := { s.meas with tripped := level } }

/-- The stamp of a STROBE rise (04 R71). -/
def State.stampStrobe (s : State) : State :=
  { s with queue := { s.queue with records := stampFirst s.time.now s.queue.records } }

/-- A STROBE rise (04 R71). -/
def State.strobeRise (s : State) : State :=
  if s.queue.records.any (fun r => decide (r.state = .ordered ∧ r.strobe = none)) then
    s.stampStrobe
  else s.count .strayStrobe

/-- The comparator is sampled with VBAT in mV; a fall with SAG ENABLE on and the window closed takes a trip
(08 R156, R157). The comparator is watched in RUN only. -/
def State.sampleComparator (vbat : Nat) (s : State) : State :=
  if s.time.domain = .run then
    let level := comparatorLevel s.settings.sagThreshold s.meas.tripped vbat
    let x := s.seeComparator level
    if !s.meas.tripped && x.tripPossible then (State.concludeLoads s x.takeTrip).arbitrate else x
  else s

/-! ### The commands -/

/-- TRIG_ACTIVE (02 R27): a TRIG already low makes no change. -/
def execTrigActive (s : State) : StepResult := .next (if s.pins.trig then s.trigActive else s)

/-- SERVICE_ACTIVE (06 R108): a SERVICE already low makes no change. -/
def execServiceActive (s : State) : StepResult := .next (if s.pins.service then s.serviceActive else s)

/-- STROBE_RISE (04 R71): the Shot Queue takes it in RUN only (01 R13). -/
def execStrobeRise (s : State) : StepResult := .next (if s.time.domain = .run then s.strobeRise else s)

/-- SAG_TRIP (08 R157). -/
def execSagTrip (vbat : Nat) (s : State) : StepResult := .next (s.sampleComparator vbat)

/-- COMPARATOR_LEVEL_CHANGE (08 R156). -/
def execComparatorLevelChange (vbat : Nat) (s : State) : StepResult := .next (s.sampleComparator vbat)

/-- TRIG_OR_SERVICE_HIGH (10 R188, 02 R27, 06 R108). -/
def execTrigOrServiceHigh (pin : ActiveLowPin) (s : State) : StepResult :=
  .next (match pin with
    | .trig => if s.pins.trig then s else s.seeTrig true
    | .service => if s.pins.service then s else s.seeService true)

end Sys2Proof.Machine
end

