-- ==== Sys2Proof/Machine/Notices.lean ====
section
/-! DEFINITION. The capture module's packets and the Shot Queue's timeouts (04), with the retention verdict (05) and
the ramp update they lead to. -/

namespace Sys2Proof.Machine

/-! ### The retention verdict (05 R88 to R96) -/

/-- The tier test (05 R90): while UNSET, only a row that holds all four tiers. -/
def tierTest (current : Tier) (tiers : List Tier) : Bool :=
  match current with
  | .unset => Tier.named.all (fun t => tiers.contains t)
  | t => tiers.contains t

/-- The change test (05 R91). -/
def changeTest (row : RetentionRow) (mean : Nat) (reference : Option Byte) : Bool :=
  match row.change, reference with
  | .any, _ => true
  | .changed, none => true
  | .changed, some r => decide (row.delta ≤ ((mean : Int) - (r.toNat : Int)).natAbs)
  | .unchanged, none => false
  | .unchanged, some r => decide (((mean : Int) - (r.toNat : Int)).natAbs < row.delta)

/-- Whether a frame passes the four tests of a row (05 R88 to R91). -/
def rowMatches (role : Role) (mean : Nat) (tier : Tier) (reference : Option Byte) (row : RetentionRow) : Bool :=
  row.roles.contains role && decide (row.meanLow ≤ mean) && decide (mean ≤ row.meanHigh) &&
    tierTest tier row.tiers && changeTest row mean reference

/-- The row that applies to a frame, with its index (05 R88). -/
def State.applicableRow (s : State) (role : Role) (mean : Byte) : Option (Nat × RetentionRow) :=
  let rows := s.store.retention.active.rows
  let hit := rowMatches role mean.toNat s.meas.tier s.retention.lastKeptCenter
  match rows.findIdx? hit with
  | none => none
  | some i => (rows[i]?).map (fun r => (i, r))

/-- The counter of a KEEP_EVERY row after it applies, and whether the verdict is KEEP (05 R93). -/
def decimate (every counter : Nat) : Nat × Bool :=
  if counter + 1 = every then (0, true) else (counter + 1, false)

/-- Whether the verdict is KEEP (05 R92, R93). -/
def State.verdictKeeps (s : State) (role : Role) (mean : Byte) : Bool :=
  match s.applicableRow role mean with
  | none => true
  | some (i, row) =>
    match row.action with
    | .keep => true
    | .drop => false
    | .keepEvery => (decimate row.every (s.retention.decimation.getD i 0)).2

/-- The decimation counters after a verdict (05 R93). -/
def State.decimationAfter (s : State) (role : Role) (mean : Byte) : List Nat :=
  match s.applicableRow role mean with
  | none => s.retention.decimation
  | some (i, row) =>
    match row.action with
    | .keepEvery => s.retention.decimation.set i (decimate row.every (s.retention.decimation.getD i 0)).1
    | .keep => s.retention.decimation
    | .drop => s.retention.decimation

/-- A verdict KEEP: HELD, counted kept, and for a CENTER the new reference (05 R92, R95, R96). -/
def State.keepFrame (r : ShotRecord) (mean : Byte) (s : State) : State :=
  let d := s.decimationAfter r.role mean
  let c := s.count .kept
  { c with
    retention := ⟨d, if r.role = .center then some mean else s.retention.lastKeptCenter⟩
    queue := s.queue.alter r.tag (fun x => { x with state := .held, heldSince := some s.time.calendar }) }

/-- A verdict DROP: DROP is sent and the record removed, counted rule-dropped (05 R92, R96). -/
def State.dropFrame (r : ShotRecord) (mean : Byte) (s : State) : State :=
  let d := s.decimationAfter r.role mean
  let c := (s.count .ruleDropped).sendS (dropPacket r.tag)
  { c with
    retention := ⟨d, s.retention.lastKeptCenter⟩
    queue := s.queue.remove r.tag }

/-- Stage 3 of a FRAME (04 R74). -/
def State.judge (r : ShotRecord) (mean : Byte) (s : State) : State :=
  if s.verdictKeeps r.role mean then s.keepFrame r mean else s.dropFrame r mean

/-! ### Taking notices (04 R65 to R69, R74 to R83) -/

/-- A FRAME that matches an ORDERED record, stages 1 to 5 (04 R74). -/
def State.takeFrame (r : ShotRecord) (f : Facts) (s : State) : State :=
  let stored := { s with queue := s.queue.alter r.tag (fun x => { x with facts := some f }) }
  let ramped := if r.role = .center then stored.rampUpdate r f else stored
  let judged := ramped.judge r f.mean
  let watched := decide ((s.queue.oldest .ordered).map (·.tag) = some r.tag)
  let q := { judged.queue with failures := 0 }
  { judged with queue := if watched then q.watch s.settings.exposureAllowance else q }

/-- FRAME by module state and by the record its tag matches (04 R69, R74, R75). -/
def State.serveFrame (tag : Byte) (f : Facts) (s : State) : State :=
  match s.queue.module with
  | .unpowered => s.count .strayNotice
  | .booting => s.count .strayNotice
  | .ready =>
    match s.queue.withTag tag with
    | none => (s.count .strayFrame).sendS (dropPacket tag)
    | some r =>
      match r.state with
      | .ordered => State.settle .protection s (s.takeFrame r f)
      | _ => s.count .strayFrame

/-- The start of a boot's READY state: the boot timer is cancelled and a pending shot issued (04 R65, 02 R24). -/
def State.bootReady (s : State) : State :=
  State.issuePending { s with queue := { s.queue with module := .ready, bootTimer := .idle } }

/-- HELLO by module state (04 R65, R69). A restart that empties the queue or ends a relay presents that, and the demand is
evaluated (07 R127, R128), by which the rail can go off in the same event (log 32). -/
def State.serveHello (s : State) : State :=
  match s.queue.module with
  | .unpowered => s.count .strayNotice
  | .booting => State.settleIfPresented .protection s s.bootReady
  | .ready => State.settleIfPresented .protection s s.flush.raiseFailures.flagModuleRestart

/-- The Queue asks for a cycle: the hold is set; the rail follows at the end of the event (07 R131). -/
def State.requestCycle (s : State) : State := { s with rails := { s.rails with cycleHold := true } }

/-- FAULT by module state (04 R66, R69). -/
def State.serveFault (code : Byte) (s : State) : State :=
  let taken :=
    State.conclude .module s
      (State.raiseFailures { s with queue := { s.queue with faultCode := some code } }).requestCycle
  match s.queue.module with
  | .unpowered => s.count .strayNotice
  | .booting => taken
  | .ready => taken

/-- DELIVERED by module state and record (04 R69, R78). -/
def State.serveDelivered (tag : Byte) (s : State) : State :=
  match s.queue.module with
  | .unpowered => s.count .strayNotice
  | .booting => s.count .strayNotice
  | .ready =>
    match s.queue.withTag tag with
    | none => s.count .strayDelivery
    | some r =>
      let c := s.count .delivered
      match r.state with
      | .ordered => s.count .strayDelivery
      | .releasing =>
        State.settle .protection s { c with queue := { s.queue.remove tag with deliveryTimer := .idle } }
      | .held => State.settle .protection s { c with queue := s.queue.remove tag }
      | .offered => State.settle .protection s { c with queue := s.queue.remove tag }

/-- A delivery failure of the RELEASING record (04 R79). -/
def State.deliveryFailure (r : ShotRecord) (s : State) : State :=
  if r.failures = 0 then
    { s with
      queue := { s.queue.alter r.tag (fun x => { x with state := .held, failures := 1 }) with
                 deliveryTimer := .idle } }
  else
    let c := (s.count .lost).sendS (dropPacket r.tag)
    { c with queue := { s.queue.remove r.tag with deliveryTimer := .idle } }

/-- UNDELIVERED by module state and record (04 R69, R79). -/
def State.serveUndelivered (tag : Byte) (s : State) : State :=
  match s.queue.module with
  | .unpowered => s.count .strayNotice
  | .booting => s.count .strayNotice
  | .ready =>
    match s.queue.withTag tag with
    | none => s.count .strayDelivery
    | some r =>
      match r.state with
      | .releasing => State.settle .protection s (s.deliveryFailure r)
      | _ => s

/-- Whether the recorder is in session: requests are served, and module relays passed on (06 R117, 04 R83). -/
def State.inSession (s : State) : Bool :=
  decide (s.session.state = .awake) || decide (s.session.state = .closing)

/-- The relay in progress ends (04 R81). -/
def State.endRelay (s : State) : State :=
  { s with queue := { s.queue with relay := .idle, relayLimit := .idle } }

/-- A module's RELAY passed on to the recorder, or discarded (04 R83). -/
def State.passRelay (payload : List Byte) (s : State) : State :=
  if s.inSession then s.sendP (relayPacket payload) else s.count .strayNotice

/-- RELAY from the module by module state (04 R69, R83). -/
def State.serveModuleRelay (payload : List Byte) (s : State) : State :=
  match s.queue.module with
  | .unpowered => s.count .strayNotice
  | .booting => s.count .strayNotice
  | .ready =>
    match s.queue.relay with
    | .inProgress => State.settle .protection s (s.passRelay payload).endRelay
    | .idle => s.passRelay payload

/-! ### Timeouts of the Shot Queue -/

/-- The boot limit expires in BOOTING (04 R64, 02 R25). -/
def State.bootExpired (s : State) : State :=
  State.conclude .module s
    (State.raiseFailures { s with queue := { s.queue with bootTimer := .idle } }).requestCycle

/-- The watched record's deadline expires (04 R73). -/
def State.deadlineExpired (r : ShotRecord) (s : State) : State :=
  let d := (s.sendS (dropPacket r.tag)).count .lost
  State.settle .protection s
    (State.raiseFailures { d with queue := (s.queue.remove r.tag).watch s.settings.exposureAllowance })

/-! ### The commands -/

/-- HELLO (04 R65). -/
def execHello (s : State) : StepResult := .next (s.handOver .s helloPacket State.roomS State.serveHello)

/-- FRAME (04 R74, R75): the shutter time and gain the module used are not stored (04, section 4.3). -/
def execFrame (tag : Byte) (shutter : Word32) (gain mean clippedHigh clippedLow : Byte) (s : State) : StepResult :=
  .next (s.handOver .s (framePacket tag shutter gain mean clippedHigh clippedLow) State.roomS
    (State.serveFrame tag ⟨mean, clippedHigh, clippedLow⟩))

/-- DELIVERED (04 R78). -/
def execDelivered (tag : Byte) (s : State) : StepResult :=
  .next (s.handOver .s (deliveredPacket tag) State.roomS (State.serveDelivered tag))

/-- UNDELIVERED (04 R79). -/
def execUndelivered (tag : Byte) (s : State) : StepResult :=
  .next (s.handOver .s (undeliveredPacket tag) State.roomS (State.serveUndelivered tag))

/-- FAULT (04 R66). -/
def execFault (code : Byte) (s : State) : StepResult :=
  .next (s.handOver .s (faultPacket code) State.roomS (State.serveFault code))

/-- MODULE_RELAY (04 R83). -/
def execModuleRelay (payload : List Byte) (s : State) : StepResult :=
  .next (s.handOver .s (relayPacket payload) State.roomS (State.serveModuleRelay payload))

/-- BOOT_TIMER_EXPIRY (04 R64). -/
def execBootTimerExpiry (s : State) : StepResult :=
  .next (if s.time.domain = .run ∧ s.queue.bootTimer.due ∧ s.queue.module = .booting then s.bootExpired else s)

/-- EXPOSURE_DEADLINE_EXPIRY (04 R73). -/
def execExposureDeadlineExpiry (s : State) : StepResult :=
  .next (if s.time.domain = .run ∧ s.queue.deadline.due then
      match s.queue.oldest .ordered with
      | some r => s.deadlineExpired r
      | none => s
    else s)

/-- DELIVERY_TIMER_EXPIRY (04 R79). -/
def execDeliveryTimerExpiry (s : State) : StepResult :=
  .next (if s.time.domain = .run ∧ s.queue.deliveryTimer.due then
      match s.queue.oldest .releasing with
      | some r => State.settle .protection s (s.deliveryFailure r)
      | none => s
    else s)

/-- RELAY_REPLY_LIMIT_EXPIRY (04 R81). -/
def execRelayReplyLimitExpiry (s : State) : StepResult :=
  .next (if s.time.domain = .run ∧ s.queue.relayLimit.due ∧ s.queue.relay = .inProgress then
      State.settle .protection s s.endRelay
    else s)

end Sys2Proof.Machine
end

