-- ==== Sys2Proof/Machine/Recorder.lean ====
section
/-! DEFINITION. Recorder sessions (06): READY, SLEEP, CLAIM, WAIVE and the session's timeouts. -/

namespace Sys2Proof.Machine

/-! ### READY (06 R110, R118) -/

/-- READY in WAKING (06 R110). -/
def State.readyInWaking (s : State) : State :=
  State.statusThenOffer
    { s with session := { s.session with state := .awake, readyTimer := .idle,
                                         awakeTimer := Timer.startSeconds s.settings.awakeLimit } }

/-- READY in AWAKE or CLOSING (06 R118): the transaction is abandoned, an OFFERED record returns to HELD, and the
report shows the state after the offer test. -/
def State.readyAgain (s : State) : State :=
  State.statusThenOffer
    { s with
      store := s.store.abandon
      queue := s.queue.moveAll .offered .held
      session := { s.session with offerTimer := if s.queue.has .offered then .idle else s.session.offerTimer } }

/-- READY by session state (06 R117). -/
def State.serveReady (s : State) : State :=
  match s.session.state with
  | .off => s.count .outOfSession
  | .waking => s.readyInWaking
  | .awake => s.readyAgain
  | .closing => s.readyAgain

/-- Whether READY can be taken: six places, none when it is discarded (10 R180, 11 R193). -/
def State.readyCondition (s : State) : Bool :=
  match s.session.state with
  | .off => true
  | _ => s.roomP 6

/-! ### SLEEP (06 R119) -/

/-- SLEEP in AWAKE (06 R119). -/
def State.sleepInAwake (s : State) : State :=
  let r := { s with
    queue := s.queue.moveAll .offered .held
    session := { s.session with offerTimer := .idle } }
  if s.queue.has .releasing then
    { r with session := { r.session with state := .closing } }
  else State.conclude .protection s r.endSession

/-- SLEEP by session state (06 R117). -/
def State.serveSleep (s : State) : State :=
  match s.session.state with
  | .off => s.count .outOfSession
  | .waking => s.count .outOfSession
  | .awake => s.sleepInAwake
  | .closing => s

/-! ### CLAIM and WAIVE (06 R113 to R115) -/

/-- Whether a CLAIM or WAIVE is taken for the OFFERED record (06 R113). -/
def State.answersOffer (tag : Byte) (s : State) : Bool :=
  decide (s.session.state = .awake) && s.session.offerSent &&
    decide ((s.queue.oldest .offered).map (·.tag) = some tag)

/-- The answer to a CLAIM or WAIVE, which carries the tag (10 R181). -/
def State.answerTag (kind : Byte) (r : AnswerCode) (tag : Byte) (s : State) : State :=
  s.sendP (answerPacket kind r (some (tag.setWidth 32)))

/-- The session's part of an accepted reply (06 R114, R115). -/
def State.acceptReply (s : State) : State :=
  { s with session := { s.session with offerTimer := .idle, timeouts := 0 } }

/-- A CLAIM in session (06 R114, 04 R77). -/
def State.claim (tag : Byte) (s : State) : State :=
  if s.answersOffer tag then
    let a := (s.answerTag 0x03 .ok tag).acceptReply.sendS (releasePacket tag)
    State.settle .protection s
      { a with
        queue := { s.queue.alter tag (fun x => { x with state := .releasing }) with
                   deliveryTimer := Timer.startSeconds s.settings.deliveryTimeout } }
  else s.answerTag 0x03 .stale tag

/-- A WAIVE in session (06 R115, 04 R76). -/
def State.waive (tag : Byte) (s : State) : State :=
  if s.answersOffer tag then
    let a := ((s.answerTag 0x04 .ok tag).acceptReply.sendS (dropPacket tag)).count .waived
    State.settle .protection s { a with queue := s.queue.remove tag }
  else s.answerTag 0x04 .stale tag

/-- A packet that is served in AWAKE and CLOSING only, with the places it needs on the P-link (06 R117, 10 R180). -/
def State.takeRequest (p : Packet) (places : Nat) (body : State → State) (s : State) : State :=
  s.handOver .p p (fun x => !x.inSession || x.roomP places)
    (fun x => if x.inSession then body x else x.count .outOfSession)

/-! ### Timeouts of the session -/

/-- No READY in time (06 R111). -/
def State.noShow (s : State) : State :=
  State.conclude .protection s (s.count .noShows).flagNoShow.endSession

/-- An offer timeout (06 R116). The offer that follows is the one of the test of R112, made at the end of the event: the oldest
HELD record, which is an older one than the record returned where a FRAME out of order made one HELD meanwhile (log 33). -/
def State.offerTimedOut (s : State) : State :=
  let r := State.flagOfferTimeout
    { s with
      queue := s.queue.moveAll .offered .held
      session := { s.session with timeouts := s.session.timeouts + 1, offerTimer := .idle } }
  State.settle .protection s (if 2 ≤ r.session.timeouts then r.forceSleep else r)

/-- The rest span is over (06 R123). -/
def State.endRest (s : State) : State := { s with session := { s.session with restTimer := .idle } }

/-! ### The commands -/

/-- READY (06 R110, R117, R118). -/
def execReady (s : State) : StepResult := .next (s.handOver .p readyPacket State.readyCondition State.serveReady)

/-- SLEEP (06 R117, R119). It is not answered and needs no place. -/
def execSleep (s : State) : StepResult := .next (s.handOver .p sleepPacket (fun _ => true) State.serveSleep)

/-- CLAIM (06 R113, R114, R117). -/
def execClaim (tag : Byte) (s : State) : StepResult :=
  .next (s.takeRequest (claimPacket tag) 2 (State.claim tag))

/-- WAIVE (06 R113, R115, R117). -/
def execWaive (tag : Byte) (s : State) : StepResult :=
  .next (s.takeRequest (waivePacket tag) 2 (State.waive tag))

/-- READY_TIMER_EXPIRY (06 R111). -/
def execReadyTimerExpiry (s : State) : StepResult :=
  .next (if s.time.domain = .run ∧ s.session.readyTimer.due ∧ s.session.state = .waking then s.noShow else s)

/-- AWAKE_TIMER_EXPIRY (06 R121). -/
def execAwakeTimerExpiry (s : State) : StepResult :=
  .next (if s.time.domain = .run ∧ s.session.awakeTimer.due ∧ s.inSession then
      State.conclude .protection s s.forceSleep
    else s)

/-- OFFER_TIMEOUT (06 R116). -/
def execOfferTimeout (s : State) : StepResult :=
  .next (if s.time.domain = .run ∧ s.session.offerTimer.due ∧ s.session.state = .awake ∧ s.queue.has .offered then
      s.offerTimedOut
    else s)

/-- REST_TIMER_EXPIRY (06 R123). -/
def execRestTimerExpiry (s : State) : StepResult :=
  .next (if s.time.domain = .run ∧ s.session.restTimer.due ∧ s.session.state = .off then
      State.concludeLoads s s.endRest.evaluateWake
    else s)

end Sys2Proof.Machine
end

