-- ==== Sys2Proof/Machine/Settings.lean ====
section
/-! DEFINITION. SET and GET with the effects that some items have at once (10, sections 10.1 and 10.2), CLEAR (10,
section 10.3) and QUERY (10 R189). -/

namespace Sys2Proof.Machine

/-! ### Effects of a SET taken (10 R182 stage 4) -/

/-- What a clock-set notice leads to: silent entry, and a rollover of cause SET (01 R4 to R6). Wake demand is
evaluated at a clock set while the session is OFF (05 R100; log 25). -/
def State.afterClockSet (before : TimeBase) (s : State) : State := (s.rollover before).enterSilently.evaluateWake

/-- CLOCK (01 R5). -/
def State.setClock (v : Word32) (s : State) : State :=
  State.concludeLoads s (State.afterClockSet s.time { s with time := { s.time with calendar := v, phase := 0 } })

/-- DAY OFFSET (01 R6). -/
def State.setDayOffset (v : Word32) (s : State) : State :=
  State.concludeLoads s (State.afterClockSet s.time { s with time := { s.time with dayOffset := v.toInt } })

/-- An item's value replaced. -/
def State.putItem (i : Item) (v : Word32) (s : State) : State := { s with settings := s.settings.put i v }

/-- CAPACITY (04 R61), with the evaluation of wake demand (05 R100; log 25). -/
def State.setCapacity (v : Word32) (s : State) : State :=
  State.concludeLoads s (s.putItem .capacity v).evaluateWake

/-- CAPTURE MODE (07 R129, R131): the cycle hold is cleared and the capture rail evaluated. -/
def State.setCaptureMode (v : Word32) (s : State) : State :=
  let p := s.putItem .captureMode v
  State.conclude .protection s { p with rails := { p.rails with cycleHold := false } }

/-- HEATER MODE (07 R138). -/
def State.setHeaterMode (v : Word32) (s : State) : State := State.concludeLoads s (s.putItem .heaterMode v)

/-- SAG ENABLE (08 R157): set to on with the comparator tripped and the window closed, a trip is taken. -/
def State.setSagEnable (v : Word32) (s : State) : State :=
  let p := s.putItem .sagEnable v
  if p.tripPossible then (State.concludeLoads s p.takeTrip).arbitrate else p

/-- RAMP POSITION (03 R58). -/
def State.setRampPosition (v : Word32) (s : State) : State :=
  { s with ramp := { s.ramp with position := clampToLadder s.ladder (v.toNat : Int)
                                 generation := s.ramp.generation + 1 } }

/-- The effect of a SET taken. -/
def State.applySet (i : Item) (v : Word32) (s : State) : State :=
  match i with
  | .clock => s.setClock v
  | .dayOffset => s.setDayOffset v
  | .capacity => s.setCapacity v
  | .captureMode => s.setCaptureMode v
  | .heaterMode => s.setHeaterMode v
  | .sagEnable => s.setSagEnable v
  | .rampPosition => s.setRampPosition v
  | other => s.putItem other v

/-- Whether the item's owner refuses the value BUSY (10 R182 stage 3). -/
def State.refusesSet (i : Item) (v : Word32) (s : State) : Bool :=
  match i with
  | .capacity => decide (v.toNat < s.queue.records.length)
  | .rampPosition => decide (s.sched.state = .running)
  | _ => false

/-- Stages 2 to 4 of a SET of a known item (10 R182). -/
def State.setItem (i : Item) (v : Word32) (s : State) : State :=
  if !i.inRange v then s.answer 0x10 .badValue
  else if s.refusesSet i v then s.answer 0x10 .busy
  else (s.answer 0x10 .ok).applySet i v

/-- SET of the item with a code (10 R182). -/
def State.serveSet (code : Byte) (v : Word32) (s : State) : State :=
  match Item.ofCode code with
  | none => s.answer 0x10 .badItem
  | some i => s.setItem i v

/-- GET of the item with a code (10 R183). -/
def State.serveGet (code : Byte) (s : State) : State :=
  match Item.ofCode code with
  | none => s.answer 0x11 .badItem
  | some i => s.sendP (answerPacket 0x11 .ok (some (s.itemValue i)))

/-! ### CLEAR (10 R185) and QUERY -/

/-- CLEAR(COUNTERS). -/
def State.serveClearCounters (s : State) : State := { s.answer 0x14 .ok with counters := Counters.zero }

/-- CLEAR(FLAGS). -/
def State.serveClearFlags (s : State) : State := { s.answer 0x14 .ok with flags := StickyFlags.clear }

/-- The latches and the failure count cleared (07 R133). -/
def State.clearLatches (s : State) : State :=
  { s with
    rails := { s.rails with moduleLatch := false }
    queue := { s.queue with failures := 0 }
    meas := { s.meas with sagLatch := false } }

/-- CLEAR(LATCH). -/
def State.serveClearLatch (s : State) : State :=
  State.conclude .protection s (s.answer 0x14 .ok).clearLatches

/-- CLEAR of the group with a code. -/
def State.serveClear (group : Byte) (s : State) : State :=
  match group.toNat with
  | 0 => s.serveClearCounters
  | 1 => s.serveClearFlags
  | 2 => s.serveClearLatch
  | _ => s.answer 0x14 .badValue

/-- QUERY (10 R189). -/
def State.serveQuery (s : State) : State := (s.answer 0x17 .ok).sendStatus

/-! ### The commands -/

/-- SET_CLOCK (01 R5). -/
def execSetClock (v : Word32) (s : State) : StepResult := .next (s.takeRequest (setPacket 0 v) 1 (State.serveSet 0 v))

/-- SET_DAY_OFFSET (01 R6). -/
def execSetDayOffset (v : Word32) (s : State) : StepResult :=
  .next (s.takeRequest (setPacket 1 v) 1 (State.serveSet 1 v))

/-- SET_CAPACITY (04 R61). -/
def execSetCapacity (v : Word32) (s : State) : StepResult :=
  .next (s.takeRequest (setPacket 2 v) 1 (State.serveSet 2 v))

/-- SET_CAPTURE_MODE (07 R129). -/
def execSetCaptureMode (v : Word32) (s : State) : StepResult :=
  .next (s.takeRequest (setPacket 16 v) 1 (State.serveSet 16 v))

/-- SET_HEATER_MODE (07 R138). -/
def execSetHeaterMode (v : Word32) (s : State) : StepResult :=
  .next (s.takeRequest (setPacket 17 v) 1 (State.serveSet 17 v))

/-- SET_SAG_THRESHOLD (08 R156). -/
def execSetSagThreshold (v : Word32) (s : State) : StepResult :=
  .next (s.takeRequest (setPacket 20 v) 1 (State.serveSet 20 v))

/-- SET_SAG_ENABLE (08 R157). -/
def execSetSagEnable (v : Word32) (s : State) : StepResult :=
  .next (s.takeRequest (setPacket 21 v) 1 (State.serveSet 21 v))

/-- SET_RAMP_POSITION (03 R58). -/
def execSetRampPosition (v : Word32) (s : State) : StepResult :=
  .next (s.takeRequest (setPacket 26 v) 1 (State.serveSet 26 v))

/-- SET (10 R182). -/
def execSet (item : Byte) (v : Word32) (s : State) : StepResult :=
  .next (s.takeRequest (setPacket item v) 1 (State.serveSet item v))

/-- GET (10 R183). -/
def execGet (item : Byte) (s : State) : StepResult := .next (s.takeRequest (getPacket item) 1 (State.serveGet item))

/-- CLEAR_COUNTERS (10 R185). -/
def execClearCounters (s : State) : StepResult :=
  .next (s.takeRequest (clearPacket 0) 1 State.serveClearCounters)

/-- CLEAR_FLAGS (10 R185). -/
def execClearFlags (s : State) : StepResult := .next (s.takeRequest (clearPacket 1) 1 State.serveClearFlags)

/-- CLEAR_LATCH (07 R133, 10 R185). -/
def execClearLatch (s : State) : StepResult := .next (s.takeRequest (clearPacket 2) 1 State.serveClearLatch)

/-- CLEAR (10 R185). -/
def execClear (group : Byte) (s : State) : StepResult :=
  .next (s.takeRequest (clearPacket group) 1 (State.serveClear group))

/-- QUERY (10 R189), which needs six places (10 R180). -/
def execQuery (s : State) : StepResult := .next (s.takeRequest queryPacket 6 State.serveQuery)

end Sys2Proof.Machine
end

