-- ==== Sys2Proof/Machine/Shooting.lean ====
section
/-! DEFINITION. The requests that other blocks serve: START and STOP (02 R16, R17), SHOOT (02 R29), MEASURE (08 R152)
and RELAY (04 R82). -/

namespace Sys2Proof.Machine

/-! ### START and STOP -/

/-- RUNNING by START, before the due shot (02 R16). -/
def State.enterRunning (s : State) : State :=
  State.enterSilently { s with sched := { s.sched with state := .running, elapsed := 0 } }

/-- START (02 R16). The ANSWER stands before everything the event sends. The swap of a pending commit and the entry by
START each advance the generation by their own rule (03 R54 to R56; log 9). -/
def State.serveStart (s : State) : State :=
  match s.sched.state with
  | .running => s.answer 0x12 .ok
  | .stopped =>
    let c := s.makeCommit [.nextShot, .nextWindow]
    if c.store.allValid then
      State.settle .protection s (c.answer 0x12 .ok).enterRunning.scheduledShotDue.present
    else State.conclude .protection s (c.answer 0x12 .notReady)

/-- Whether a pending shot is ended by STOP (02 R17). -/
def PendingShot.endsAtStop (p : PendingShot) : Bool := !decide (p.kind = .manual)

/-- STOP (02 R17). -/
def State.serveStop (s : State) : State :=
  let a := s.answer 0x13 .ok
  match s.sched.state with
  | .stopped => a
  | .running =>
    let e := if s.sched.slot.any (·.endsAtStop) then a.endPending .stopped else a
    State.settle .protection s
      (State.present { e with sched := { e.sched with state := .stopped, window := none } })

/-! ### SHOOT (02 R29) -/

/-- The answer to a SHOOT, by the first test that holds (02 R29). -/
def State.shootAnswer (rung : Option Nat) (s : State) : AnswerCode :=
  if rung.any (fun r => decide (Config.maxPosition < r)) then .badValue
  else if !s.store.allValid then .notReady
  else if s.suspended || s.protectedNow then .protection
  else if s.sched.slot.isSome then .busy
  else if s.queue.module = .ready ∧ s.freeSlots = 0 then .full
  else .ok

/-- The effect of a SHOOT answered OK (02 R29). -/
def State.shoot (rung : Option Nat) (s : State) : State :=
  match s.queue.module with
  | .ready => s.issue (s.manualSpecs rung)
  | _ => s.fillSlot ⟨.manual, s.time.calendar, rung⟩

/-- SHOOT (02 R29). -/
def State.serveShoot (rung : Option Nat) (s : State) : State :=
  let r := s.shootAnswer rung
  let a := s.answer 0x15 r
  if r = .ok then State.settle .protection s (a.shoot rung) else a

/-! ### MEASURE and RELAY -/

/-- MEASURE (08 R152). -/
def State.serveMeasure (channels : Byte) (s : State) : State :=
  match channelSet channels with
  | none => s.answer 0x16 .badValue
  | some r => ((s.answer 0x16 .ok).request r).arbitrate

/-- The answer to a RELAY (04 R82). -/
def State.relayAnswer (s : State) : AnswerCode :=
  if s.queue.module ≠ .ready then .notReady
  else if s.queue.has .ordered then .busy
  else if s.queue.relay = .inProgress then .busy
  else .ok

/-- The relay begins (04 R81, R82). -/
def State.beginRelay (payload : List Byte) (s : State) : State :=
  let f := s.sendS (relayPacket payload)
  { f with queue := { s.queue with relay := .inProgress, relayLimit := Timer.start Config.relayReplyMs } }

/-- RELAY (04 R82). -/
def State.serveRelay (payload : List Byte) (s : State) : State :=
  let r := s.relayAnswer
  let a := s.answer 0x18 r
  if r = .ok then State.settle .protection s (a.beginRelay payload) else a

/-! ### The commands -/

/-- START (02 R16). -/
def execStart (s : State) : StepResult := .next (s.takeRequest startPacket 1 State.serveStart)

/-- STOP (02 R17). -/
def execStop (s : State) : StepResult := .next (s.takeRequest stopPacket 1 State.serveStop)

/-- SHOOT (02 R29). -/
def execShoot (rung : Option Word16) (s : State) : StepResult :=
  .next (s.takeRequest (shootPacket rung) 1 (State.serveShoot (rung.map (·.toNat))))

/-- MEASURE (08 R152). -/
def execMeasure (channels : Byte) (s : State) : StepResult :=
  .next (s.takeRequest (measurePacket channels) 1 (State.serveMeasure channels))

/-- RELAY (04 R82). -/
def execRelay (payload : List Byte) (s : State) : StepResult :=
  .next (s.takeRequest (relayPacket payload) 1 (State.serveRelay payload))

end Sys2Proof.Machine
end

