-- ==== Sys2Proof/Machine/Loading.lean ====
section
/-! DEFINITION. Table loading (09): OPEN, ROW, CLOSE and COMMIT. -/

namespace Sys2Proof.Machine

/-- OPEN (09 R167). -/
def State.serveOpen (code : Byte) (s : State) : State :=
  if s.store.load.isSome then (s.answer 0x19 .badSequence).abandonLoad
  else
    match Table.ofCode code.toNat with
    | none => s.answer 0x19 .badValue
    | some t =>
      if s.store.commit.any (fun c => c.tables.contains t) then s.answer 0x19 .busy
      else
        { s.answer 0x19 .ok with
          store := { s.store.emptyStaged t with load := some ⟨t, 0, 0, 0⟩ } }

/-- The sum of the payload bytes of a packet, modulo 65,536 (09 R168). -/
def byteSum (bs : List Byte) : Word16 := BitVec.ofNat 16 (bs.foldl (fun n b => n + b.toNat) 0)

/-- Whether a ROW keeps the transaction's sequence (09 R168 stage 2). -/
def Transaction.follows (tr : Transaction) (table number : Byte) : Bool :=
  decide (Table.ofCode table.toNat = some tr.table) && decide (number.toNat = tr.expected) &&
    decide (number.toNat < tr.table.capacity)

/-- ROW (09 R168, R169). -/
def State.serveRow (table number : Byte) (fields : List Byte) (s : State) : State :=
  match s.store.load with
  | none => s.answer 0x1A .badSequence
  | some tr =>
    if !tr.follows table number then (s.answer 0x1A .badSequence).abandonLoad
    else
      match s.store.storeRow tr.table fields with
      | none => (s.answer 0x1A .badValue).abandonLoad
      | some st =>
        { s.answer 0x1A .ok with
          store := { st with
            load := some ⟨tr.table, tr.expected + 1, tr.received + 1,
              tr.sum + byteSum (table :: number :: fields)⟩ } }

/-- The three tests of a CLOSE (09 R170). -/
def State.closeOk (tr : Transaction) (count : Byte) (check : Word16) (s : State) : Bool :=
  decide (count.toNat = tr.received) && decide (check = tr.sum) && s.store.stagedOk tr.table

/-- CLOSE (09 R170). -/
def State.serveClose (count : Byte) (check : Word16) (s : State) : State :=
  match s.store.load with
  | none => s.answer 0x1B .badSequence
  | some tr =>
    if s.closeOk tr count check then
      { s.answer 0x1B .ok with store := { s.store.sealStaged tr.table check with load := none } }
    else (s.answer 0x1B .checkFailed).abandonLoad

/-- What a COMMIT asks for, when its fields are in range (09 R173). -/
def commitOf (tables point : Byte) : Option PendingCommit :=
  match tableSet tables, CommitPoint.ofCode point.toNat with
  | some ts, some p => some ⟨ts, p⟩
  | _, _ => none

/-- The answer to a COMMIT in range (09 R173). -/
def State.commitAnswer (c : PendingCommit) (s : State) : AnswerCode :=
  if s.store.commit.isSome then .busy
  else if s.store.load.isSome then .badSequence
  else if !c.tables.all (fun t => s.store.stagedValid t) then .notReady
  else if !s.store.crossOk c.tables then .checkFailed
  else .ok

/-- A COMMIT answered OK (09 R173 to R175). -/
def State.takeCommit (c : PendingCommit) (s : State) : State :=
  match c.point with
  | .atOnce => s.swap c.tables
  | _ => { s with store := { s.store with commit := some c } }

/-- COMMIT (09 R173). -/
def State.serveCommit (tables point : Byte) (s : State) : State :=
  match commitOf tables point with
  | none => s.answer 0x1C .badValue
  | some c =>
    let r := s.commitAnswer c
    let a := s.answer 0x1C r
    if r = .ok then State.conclude .protection s (a.takeCommit c) else a

/-! ### The commands -/

/-- OPEN (09 R167). -/
def execOpen (table : Byte) (s : State) : StepResult :=
  .next (s.takeRequest (openPacket table) 1 (State.serveOpen table))

/-- ROW (09 R168). -/
def execRow (table number : Byte) (fields : List Byte) (s : State) : StepResult :=
  .next (s.takeRequest (rowPacket table number fields) 1 (State.serveRow table number fields))

/-- CLOSE (09 R170). -/
def execClose (count : Byte) (check : Word16) (s : State) : StepResult :=
  .next (s.takeRequest (closePacket count check) 1 (State.serveClose count check))

/-- COMMIT (09 R173). -/
def execCommit (tables point : Byte) (s : State) : StepResult :=
  .next (s.takeRequest (commitPacket tables point) 1 (State.serveCommit tables point))

end Sys2Proof.Machine
end

