-- ==== Sys2Proof/Machine/Converter.lean ====
section
/-! DEFINITION. The Measurement Unit's timeouts (08) and the heater's (07 R137). -/

namespace Sys2Proof.Machine

/-- A quantity clamped to a channel's result range (08 R147). -/
def clampResult (lo hi q : Int) : Int := max lo (min q hi)

/-- The completed conversion's result becomes the last result of its channel (08 R150 stage 1). -/
def Measurement.store (m : Measurement) (c : Channel) (q : Int) : Measurement :=
  let m := { m with converting := none, conversion := .idle }
  match c with
  | .battery => { m with lastBattery := some (clampResult 0 20000 q).toNat }
  | .temperature => { m with lastTemperature := some (clampResult (-500) 1500 q) }
  | .aux => { m with lastAux := some (clampResult 0 3300 q).toNat }

/-- The converter becomes idle with its result stored (08 R150 stage 1). -/
def State.storeResult (c : Channel) (q : Int) (s : State) : State := { s with meas := s.meas.store c q }

/-- A battery result is evaluated against the tier bank (08 R150 stage 2, R160). -/
def State.judgeBattery (s : State) : State :=
  match s.meas.lastBattery with
  | none => s
  | some v => { s with meas := { s.meas with tier := evaluateTier s.store.tier.active.rows s.meas.tier v } }

/-- A temperature result selects the band (08 R150 stage 2, 07 R136). -/
def State.judgeTemperature (s : State) : State := { s with rails := { s.rails with band := s.selectedBand } }

/-- Stage 2 of a completion (08 R150). -/
def State.handOnResult (c : Channel) (s : State) : State :=
  match c with
  | .battery => s.judgeBattery
  | .temperature => s.judgeTemperature
  | .aux => s

/-- What follows a result in the event: outputs and, after a tier change, wake demand (08 R162, 07 R136). -/
def State.concludeResult (before s : State) : State :=
  if s.meas.tier = before.meas.tier ∧ s.rails.band = before.rails.band then s
  else State.conclude .protection before s

/-- A conversion's completion (08 R150). -/
def State.conversionComplete (c : Channel) (q : Int) (s : State) : State :=
  let r := (s.storeResult c q).handOnResult c
  (State.concludeResult s r).arbitrate

/-- The measure period started at full length (08 R151). -/
def State.startMeasurePeriod (s : State) : State :=
  { s with meas := { s.meas with measurePeriod := Timer.startSeconds s.settings.measurePeriod } }

/-- The measure period expires (08 R151). -/
def State.measurePeriodExpired (s : State) : State := (s.request Requests.periodic).startMeasurePeriod.arbitrate

/-- The blanking window closed (08 R155). -/
def State.closeBlanking (s : State) : State := { s with meas := { s.meas with blanking := .idle } }

/-- The heater enters its off-phase for the rest of the period (07 R137). -/
def State.endOnPhase (s : State) : State :=
  { s with rails := { s.rails with heaterOnPhase := .idle, phaseOn := false } }

/-- The blanking window closes (08 R155). -/
def State.blankingClosed (s : State) : State :=
  let c := s.closeBlanking
  (if c.tripPossible then State.concludeLoads s c.takeTrip else c).arbitrate

/-! ### The commands -/

/-- MEASURE_PERIOD_EXPIRY (08 R151). -/
def execMeasurePeriodExpiry (s : State) : StepResult :=
  .next (if s.time.domain = .run ∧ s.meas.measurePeriod.due then s.measurePeriodExpired else s)

/-- CONVERSION_COMPLETE (08 R150). -/
def execConversionComplete (q : Int) (s : State) : StepResult :=
  .next (if s.time.domain = .run ∧ s.meas.conversion.due then
      match s.meas.converting with
      | some c => s.conversionComplete c q
      | none => s
    else s)

/-- BLANKING_WINDOW_EXPIRY (08 R155). -/
def execBlankingWindowExpiry (s : State) : StepResult :=
  .next (if s.time.domain = .run ∧ s.meas.blanking.due then s.blankingClosed else s)

/-- HEATER_PERIOD_EXPIRY (07 R137). -/
def execHeaterPeriodExpiry (s : State) : StepResult :=
  .next (if s.time.domain = .run ∧ s.rails.heaterPeriod.due then State.concludeLoads s s.startHeaterPeriod else s)

/-- HEATER_ON_PHASE_EXPIRY (07 R137). -/
def execHeaterOnPhaseExpiry (s : State) : StepResult :=
  .next (if s.time.domain = .run ∧ s.rails.heaterOnPhase.due then
      State.concludeLoads s s.endOnPhase
    else s)

end Sys2Proof.Machine
end

