-- ==== Sys2Proof/Machine/LinkEvents.lean ====
section
/-! DEFINITION. The link ports' events (11): bytes, packets, the gap timeout and completed transmissions, with the
serving of the receive queues. -/

namespace Sys2Proof.Machine

/-! ### Serving a receive queue (11 R193) -/

/-- The step of a command that a packet carries; every other command is no hand-over and changes nothing here. -/
def packetStep (c : Instr) (s : State) : StepResult :=
  match c with
  | .hello => execHello s
  | .frame tag shutter gain mean hi lo => execFrame tag shutter gain mean hi lo s
  | .delivered tag => execDelivered tag s
  | .undelivered tag => execUndelivered tag s
  | .fault code => execFault code s
  | .moduleRelay payload => execModuleRelay payload s
  | .ready => execReady s
  | .sleep => execSleep s
  | .claim tag => execClaim tag s
  | .waive tag => execWaive tag s
  | .setClock v => execSetClock v s
  | .setDayOffset v => execSetDayOffset v s
  | .setCapacity v => execSetCapacity v s
  | .setCaptureMode v => execSetCaptureMode v s
  | .setHeaterMode v => execSetHeaterMode v s
  | .setSagEnable v => execSetSagEnable v s
  | .setSagThreshold v => execSetSagThreshold v s
  | .setRampPosition v => execSetRampPosition v s
  | .set item v => execSet item v s
  | .get item => execGet item s
  | .clearCounters => execClearCounters s
  | .clearFlags => execClearFlags s
  | .clearLatch => execClearLatch s
  | .clear group => execClear group s
  | .query => execQuery s
  | .start => execStart s
  | .stop => execStop s
  | .shoot rung => execShoot rung s
  | .measure channels => execMeasure channels s
  | .relay payload => execRelay payload s
  | .openTable table => execOpen table s
  | .row table number fields => execRow table number fields s
  | .close count check => execClose count check s
  | .commit tables point => execCommit tables point s
  | _ => .next s

/-- The state a step leaves; the part never stops. -/
def stateAfter : StepResult → State → State
  | .next t, _ => t
  | .fault _, s => s
  | .refused _, s => s

/-- The packet at the head of a receive queue is handed over when its condition holds, and stays there otherwise: the
step of the command it names (11 R193; log 4). -/
def State.handHead (l : Link) (s : State) : State :=
  match (s.port l).rx with
  | [] => s
  | p :: _ =>
    match commandOf l p with
    | none => s
    | some c => stateAfter (packetStep c s) s

/-- At most `n` packets of a receive queue are handed over, in order of arrival, until one must wait (11 R193). -/
def State.handHeads (l : Link) : Nat → State → State
  | 0, s => s
  | n + 1, s => (s.handHead l).handHeads l n

/-- A link's receive queue is served (11 R193): every packet in it whose turn and condition come. -/
def State.servePort (l : Link) (s : State) : State := s.handHeads l (s.port l).rx.length

/-! ### Receiving (11 R192) -/

/-- A discard: counted as a bad packet and flagged; the receiver hunts again (11 R192). -/
def State.discardBad (l : Link) (s : State) : State :=
  let h := s.setPort l { s.port l with receiver := .hunting, gap := .idle }
  (h.count (badCounter l)).flagBadPacket

/-- The tests at the check byte (11 R192): check, kind, length of the kind. A complete packet joins the receive queue,
which is then served (R193). -/
def State.judgePacket (l : Link) (p : Packet) (check : Byte) (s : State) : State :=
  if check = p.check ∧ p.accepted l then
    State.servePort l (State.arrive l p (s.setPort l { s.port l with receiver := .hunting, gap := .idle }))
  else s.discardBad l

/-- What the bytes taken since the sync byte amount to. -/
inductive Assembly where
  /-- More bytes are needed. -/
  | more
  /-- The length byte is above 48. -/
  | tooLong
  /-- The check byte has come. -/
  | complete (p : Packet) (check : Byte)
deriving DecidableEq, Repr

/-- The state of an assembly (11 R191, R192). -/
def assemblyOf : List Byte → Assembly
  | [] => .more
  | [_] => .more
  | kind :: len :: rest =>
    if Config.maxPayload < len.toNat then .tooLong
    else
      match rest.drop len.toNat with
      | [] => .more
      | check :: _ => .complete ⟨kind, rest.take len.toNat⟩ check

/-- A byte taken while assembling (11 R192). -/
def State.assembleByte (l : Link) (bytes : List Byte) (s : State) : State :=
  match assemblyOf bytes with
  | .more => s.setPort l { s.port l with receiver := .assembling bytes, gap := Timer.start Config.gapMs }
  | .tooLong => s.discardBad l
  | .complete p check => s.judgePacket l p check

/-- One byte arrives (11 R192); a byte without its stop bit starts nothing while hunting (log 13). -/
def State.takeByte (l : Link) (b : Byte) (stopBit : Bool) (s : State) : State :=
  match (s.port l).receiver with
  | .hunting =>
    if b = Config.syncByte ∧ stopBit then
      s.setPort l { s.port l with receiver := .assembling [], gap := Timer.start Config.gapMs }
    else s
  | .assembling bytes => if stopBit then s.assembleByte l (bytes ++ [b]) else s.discardBad l

/-- Bytes with good stop bits arrive in order. -/
def State.takeBytes (l : Link) (bs : List Byte) (s : State) : State := bs.foldl (fun x b => x.takeByte l b true) s

/-- The bytes of a packet as sent, with the check byte that came with it. -/
def packetBytes (kind : Byte) (payload : List Byte) (check : Byte) : List Byte :=
  Config.syncByte :: kind :: byteOf payload.length :: (payload ++ [check])

/-! ### Transmitting (11 R194) -/

/-- A packet leaves its transmit line, completely sent (11 R194); an OFFER sets offer sent (06 R113; log 12). -/
def State.transmitted (l : Link) (s : State) : State :=
  match (s.port l).tx with
  | [] => s
  | p :: rest =>
    let d := s.setPort l { s.port l with tx := rest }
    match l with
    | .s => d
    | .p =>
      if p.kind = offerKind ∧ s.queue.has .offered ∧ (rest.all (fun q => !decide (q.kind = offerKind))) then
        { d with session := { d.session with offerSent := true } }
      else d

/-! ### The commands -/

/-- BYTE_RECEIVED (11 R192): the receivers are held outside RUN. -/
def execByteReceived (l : Link) (b : Byte) (stopBit : Bool) (s : State) : StepResult :=
  .next (if s.time.domain = .run then s.takeByte l b stopBit else s)

/-- PACKET_RECEIVED (11 R192, R193): the bytes of a whole packet, as they meet the receiver. -/
def execPacketReceived (l : Link) (kind : Byte) (payload : List Byte) (check : Byte) (s : State) : StepResult :=
  .next (if s.time.domain = .run then s.takeBytes l (packetBytes kind payload check) else s)

/-- LINK_GAP_TIMEOUT (11 R192). -/
def execLinkGapTimeout (l : Link) (s : State) : StepResult :=
  .next (if s.time.domain = .run ∧ (s.port l).gap.due ∧ (s.port l).receiver ≠ .hunting then s.discardBad l else s)

/-- TRANSMISSION_COMPLETE (11 R194): a place is free, and the link's receive queue is served (R193). Nothing is sent
outside RUN (01 R13). -/
def execTransmissionComplete (l : Link) (s : State) : StepResult :=
  .next (if s.time.domain = .run then (s.transmitted l).servePort l else s)

end Sys2Proof.Machine
end

