-- ==== Sys2Proof/Machine/Dispatch.lean ====
section
/-! DEFINITION. One arm for each command: the direct call of its meaning. -/

namespace Sys2Proof.Machine

def exec (i : Instr) (s : State) : Host.Outcome State Fault Refusal :=
  match i with
  | .coldStart => Sys2Proof.Machine.execColdStart s
  | .resetEntry => Sys2Proof.Machine.execResetEntry s
  | .warmReset => Sys2Proof.Machine.execWarmReset s
  | .powerBadEntry => Sys2Proof.Machine.execPowerBadEntry s
  | .powerBadReturn => Sys2Proof.Machine.execPowerBadReturn s
  | .secondTick => Sys2Proof.Machine.execSecondTick s
  | .trigActive => Sys2Proof.Machine.execTrigActive s
  | .serviceActive => Sys2Proof.Machine.execServiceActive s
  | .strobeRise => Sys2Proof.Machine.execStrobeRise s
  | .sagTrip vbat => Sys2Proof.Machine.execSagTrip vbat s
  | .refractoryExpiry => Sys2Proof.Machine.execRefractoryExpiry s
  | .bootTimerExpiry => Sys2Proof.Machine.execBootTimerExpiry s
  | .exposureDeadlineExpiry => Sys2Proof.Machine.execExposureDeadlineExpiry s
  | .deliveryTimerExpiry => Sys2Proof.Machine.execDeliveryTimerExpiry s
  | .relayReplyLimitExpiry => Sys2Proof.Machine.execRelayReplyLimitExpiry s
  | .hello => Sys2Proof.Machine.execHello s
  | .frame tag shutter gain mean clippedHigh clippedLow => Sys2Proof.Machine.execFrame tag shutter gain mean clippedHigh clippedLow s
  | .delivered tag => Sys2Proof.Machine.execDelivered tag s
  | .undelivered tag => Sys2Proof.Machine.execUndelivered tag s
  | .fault code => Sys2Proof.Machine.execFault code s
  | .moduleRelay payload => Sys2Proof.Machine.execModuleRelay payload s
  | .ready => Sys2Proof.Machine.execReady s
  | .readyTimerExpiry => Sys2Proof.Machine.execReadyTimerExpiry s
  | .awakeTimerExpiry => Sys2Proof.Machine.execAwakeTimerExpiry s
  | .offerTimeout => Sys2Proof.Machine.execOfferTimeout s
  | .restTimerExpiry => Sys2Proof.Machine.execRestTimerExpiry s
  | .sleep => Sys2Proof.Machine.execSleep s
  | .claim tag => Sys2Proof.Machine.execClaim tag s
  | .waive tag => Sys2Proof.Machine.execWaive tag s
  | .setClock value => Sys2Proof.Machine.execSetClock value s
  | .setDayOffset value => Sys2Proof.Machine.execSetDayOffset value s
  | .setCapacity value => Sys2Proof.Machine.execSetCapacity value s
  | .setCaptureMode value => Sys2Proof.Machine.execSetCaptureMode value s
  | .setHeaterMode value => Sys2Proof.Machine.execSetHeaterMode value s
  | .setSagEnable value => Sys2Proof.Machine.execSetSagEnable value s
  | .setSagThreshold value => Sys2Proof.Machine.execSetSagThreshold value s
  | .setRampPosition value => Sys2Proof.Machine.execSetRampPosition value s
  | .set item value => Sys2Proof.Machine.execSet item value s
  | .get item => Sys2Proof.Machine.execGet item s
  | .clearCounters => Sys2Proof.Machine.execClearCounters s
  | .clearFlags => Sys2Proof.Machine.execClearFlags s
  | .clearLatch => Sys2Proof.Machine.execClearLatch s
  | .query => Sys2Proof.Machine.execQuery s
  | .start => Sys2Proof.Machine.execStart s
  | .stop => Sys2Proof.Machine.execStop s
  | .shoot rung => Sys2Proof.Machine.execShoot rung s
  | .measure channels => Sys2Proof.Machine.execMeasure channels s
  | .relay payload => Sys2Proof.Machine.execRelay payload s
  | .openTable table => Sys2Proof.Machine.execOpen table s
  | .row table number fields => Sys2Proof.Machine.execRow table number fields s
  | .close count check => Sys2Proof.Machine.execClose count check s
  | .commit tables point => Sys2Proof.Machine.execCommit tables point s
  | .measurePeriodExpiry => Sys2Proof.Machine.execMeasurePeriodExpiry s
  | .conversionComplete quantity => Sys2Proof.Machine.execConversionComplete quantity s
  | .blankingWindowExpiry => Sys2Proof.Machine.execBlankingWindowExpiry s
  | .heaterPeriodExpiry => Sys2Proof.Machine.execHeaterPeriodExpiry s
  | .heaterOnPhaseExpiry => Sys2Proof.Machine.execHeaterOnPhaseExpiry s
  | .packetReceived link kind payload check => Sys2Proof.Machine.execPacketReceived link kind payload check s
  | .linkGapTimeout link => Sys2Proof.Machine.execLinkGapTimeout link s
  | .transmissionComplete link => Sys2Proof.Machine.execTransmissionComplete link s
  | .millisecondEdge => Sys2Proof.Machine.execMillisecondEdge s
  | .byteReceived link byte stopBit => Sys2Proof.Machine.execByteReceived link byte stopBit s
  | .comparatorLevelChange vbat => Sys2Proof.Machine.execComparatorLevelChange vbat s
  | .trigOrServiceHigh pin => Sys2Proof.Machine.execTrigOrServiceHigh pin s
  | .supokChangeInReset => Sys2Proof.Machine.execSupokChangeInReset s
  | .clear group => Sys2Proof.Machine.execClear group s

end Sys2Proof.Machine
end

