-- ==== Sys2Proof/Safety.lean ====
section
/-! DEFINITION. The terms that claims use: how a packet command meets its block, what the end of an event leaves
alone, and the invariants of the part. -/

namespace Sys2Proof.Machine

/-! ### Packets handed over -/

/-- Packet `p` on link `l` meets its block in state `x`: it arrives at an empty receive queue, or it is the head of
the queue and leaves it (11 R193; log 4). -/
def Handed (l : Link) (p : Packet) (s x : State) : Prop :=
  s.time.domain = .run ∧
    (((s.port l).rx = [] ∧ x = s) ∨
      ∃ rest, (s.port l).rx = p :: rest ∧ x = s.setPort l { s.port l with rx := rest })

/-- A request meets its block in session, with the places it needs (10 R180). -/
def Served (p : Packet) (places : Nat) (s x : State) : Prop :=
  Handed .p p s x ∧ s.inSession = true ∧ s.roomP places = true

/-- A module notice meets the Shot Queue, with room on the S-link (11 R193). -/
def Noticed (p : Packet) (s x : State) : Prop := Handed .s p s x ∧ s.roomS = true

/-- Item code and value of the commands that a SET packet carries (10 R182, spec/opcode_table.json). -/
def setRequest : Instr → Option (Byte × Word32)
  | .setClock v => some (0, v)
  | .setDayOffset v => some (1, v)
  | .setCapacity v => some (2, v)
  | .setCaptureMode v => some (16, v)
  | .setHeaterMode v => some (17, v)
  | .setSagThreshold v => some (20, v)
  | .setSagEnable v => some (21, v)
  | .setRampPosition v => some (26, v)
  | .set i v => some (i, v)
  | _ => none

/-- The state after an ANSWER without a value joins the transmit line (10 R181). -/
def answered (kind : Byte) (r : AnswerCode) (x : State) : State :=
  { x with plink := { x.plink with tx := x.plink.tx ++ [answerPacket kind r none] } }

/-- Places of the P-link transmit queue that the packets of a request can take (10 R180). -/
def requestPlaces : Instr → Nat
  | .query => 6
  | .claim _ => 2
  | .waive _ => 2
  | _ => 1

/-- The condition of a packet command's hand-over on link `l` fails: a notice lacks room on the S-link, READY its six
places, a request in session its places (11 R193, 10 R180). SLEEP, and what is discarded outside a session, wait for
nothing. -/
abbrev MustWait (l : Link) (c : Instr) (s : State) : Prop :=
  (l = .s ∧ 3 < s.slink.tx.length) ∨
  (c = .ready ∧ s.session.state ≠ .off ∧ 8 < s.plink.tx.length + 6) ∨
  (l = .p ∧ c ≠ .ready ∧ c ≠ .sleep ∧ s.inSession = true ∧ 8 < s.plink.tx.length + requestPlaces c)

/-! ### Frames -/

/-- The blocks that no end of an event touches (log 7): the scheduler but for its slot, ramp, retention, settings,
flags, inputs, pins, time and queue of commands; latches, band and heater period; last results and tier. -/
def EventFrame (s t : State) : Prop :=
  t.time = s.time ∧ t.ramp = s.ramp ∧ t.retention = s.retention ∧ t.settings = s.settings ∧ t.flags = s.flags ∧
  t.inputs = s.inputs ∧ t.pins = s.pins ∧ t.pending = s.pending ∧
  t.sched = { s.sched with slot := t.sched.slot } ∧
  t.rails = { s.rails with capture := t.rails.capture, recorder := t.rails.recorder, heater := t.rails.heater,
                           demand := t.rails.demand } ∧
  t.meas = { s.meas with converting := t.meas.converting, conversion := t.meas.conversion,
                         requests := t.meas.requests, blanking := t.meas.blanking } ∧
  t.queue.failures = s.queue.failures ∧ t.queue.faultCode = s.queue.faultCode ∧
  (t.store = s.store ∨ t.store = s.store.abandon)

/-! ### Invariants -/

/-- The outputs stand at or below their chains, and a capture rail that is off leaves no record and an UNPOWERED
module (07 R126, R130, R134, R139, 04 R68). -/
def OutputsSafe (s : State) : Prop :=
  (s.rails.capture = true → s.captureLevel = true) ∧
  (s.rails.heater = true → s.heaterLevel = true) ∧
  s.rails.recorder = s.recorderLevel ∧
  (s.rails.capture = false → s.queue.records = [] ∧ s.queue.module = .unpowered)

/-- The millisecond phase and the receive queues stay in their ranges (01 R1, 11 R192). -/
def PortsBounded (s : State) : Prop :=
  s.time.phase < Config.msPerSecond ∧ s.plink.rx.length ≤ Config.rxPlaces ∧ s.slink.rx.length ≤ Config.rxPlaces

/-- The Shot Queue: no more records than CAPACITY and CAPACITY at most 8, distinct tags, at most one record OFFERED
or RELEASING, and a failure count of at most 15 (04 R60, R61, R67). -/
def QueueSound (s : State) : Prop :=
  s.queue.records.length ≤ s.settings.capacity ∧ s.settings.capacity ≤ 8 ∧
  (s.queue.records.map (·.tag)).Nodup ∧
  s.queue.number .offered + s.queue.number .releasing ≤ 1 ∧
  s.queue.failures ≤ Config.maxFailures

/-- While the main domain is held, its items stand at the values of RESET and power-bad, and in POWER_BAD no shot is
pending (01 R13, 02 R35, 04 R84, 06 R105, 07 R125, 08 R146, 09 R166, R176, 11 R192). -/
def MainHeld (s : State) : Prop :=
  (s.time.domain = .powerBad → s.sched.slot = none) ∧
  (s.time.domain ≠ .run →
    s.queue = { s.queue with records := [], module := .unpowered, bootTimer := .idle, deadline := .idle,
                             deliveryTimer := .idle, relay := .idle, relayLimit := .idle } ∧
    s.session = { Session.cold with wakesToday := s.session.wakesToday } ∧
    s.rails = { Rails.cold with periodDuty := s.rails.periodDuty, moduleLatch := s.rails.moduleLatch,
                                band := s.rails.band } ∧
    s.meas = { s.meas with converting := none, conversion := .idle, requests := Requests.none, measurePeriod := .idle,
                           blanking := .idle, sagLatch := false } ∧
    s.store.load = none ∧ s.store.commit = none ∧ s.plink = Port.cleared ∧ s.slink = Port.cleared)

/-- Every packet of a receive queue is one that its port accepts, and so names a command (11 R192, R195). -/
def ReceivedNamed (s : State) : Prop := ∀ l : Link, ∀ p ∈ (s.port l).rx, (commandOf l p).isSome = true

/-- In RUN no packet stands at the head of a receive queue while its condition holds: it has been handed over
(11 R193), in the step of the event that lets it through (log 4, DESIGN CHOICE). -/
def HeadsWait (s : State) : Prop :=
  s.time.domain = .run → ∀ (l : Link) (p : Packet) (rest : List Packet) (c : Instr),
    (s.port l).rx = p :: rest → commandOf l p = some c → MustWait l c s

/-- Whether a VALID bank's rows pass their table's own checks (09 R171). -/
def BankSound {α : Type} (ok : List α → Bool) (b : Bank α) : Prop := b.valid = true → ok b.rows = true

/-- Both banks of a table. -/
def PairSound {α : Type} (ok : List α → Bool) (bp : BankPair α) : Prop :=
  BankSound ok bp.active ∧ BankSound ok bp.staged

/-- The Table Store: every VALID bank has passed its table's checks, the staged bank of an open transaction is EMPTY,
and the tables of a pending commit have VALID staged banks (09 R165, R166, R173, R174). -/
def StoreSound (s : State) : Prop :=
  PairSound windowTableOk s.store.window ∧ PairSound programTableOk s.store.program ∧
  PairSound ladderTableOk s.store.ladder ∧ PairSound correctionTableOk s.store.correction ∧
  PairSound retentionTableOk s.store.retention ∧ PairSound tierTableOk s.store.tier ∧
  PairSound thermalTableOk s.store.thermal ∧
  (∀ tr, s.store.load = some tr → s.store.stagedValid tr.table = false) ∧
  (∀ c, s.store.commit = some c → ∀ t ∈ c.tables, s.store.stagedValid t = true)

end Sys2Proof.Machine
end

