-- ==== Sys2Proof/WellFormed.lean ====
section
/-! DEFINITION. Well-formed commands: what a packet or a pin can carry (11 R191, R195, 08 R147). `exec` gives every
command its meaning, well-formed or not. -/

namespace Sys2Proof

open Machine

/-- Whether a command is one the outside can send: relay payloads of 1 to 48 bytes, row fields of 3 to 12 bytes,
packets of at most 48 payload bytes, and SET and CLEAR only for what has no command of its own. -/
def WellFormed : Instr → Bool
  | .moduleRelay bs => decide (1 ≤ bs.length) && decide (bs.length ≤ Config.maxPayload)
  | .relay bs => decide (1 ≤ bs.length) && decide (bs.length ≤ Config.maxPayload)
  | .row _ _ fs => decide (3 ≤ fs.length) && decide (fs.length ≤ 12)
  | .packetReceived _ _ bs _ => decide (bs.length ≤ Config.maxPayload)
  | .set i _ => !(Item.ownCommand.contains i)
  | .clear g => decide (3 ≤ g.toNat)
  | .coldStart => true
  | .resetEntry => true
  | .warmReset => true
  | .powerBadEntry => true
  | .powerBadReturn => true
  | .secondTick => true
  | .trigActive => true
  | .serviceActive => true
  | .strobeRise => true
  | .sagTrip _ => true
  | .refractoryExpiry => true
  | .bootTimerExpiry => true
  | .exposureDeadlineExpiry => true
  | .deliveryTimerExpiry => true
  | .relayReplyLimitExpiry => true
  | .hello => true
  | .frame _ _ _ _ _ _ => true
  | .delivered _ => true
  | .undelivered _ => true
  | .fault _ => true
  | .ready => true
  | .readyTimerExpiry => true
  | .awakeTimerExpiry => true
  | .offerTimeout => true
  | .restTimerExpiry => true
  | .sleep => true
  | .claim _ => true
  | .waive _ => true
  | .setClock _ => true
  | .setDayOffset _ => true
  | .setCapacity _ => true
  | .setCaptureMode _ => true
  | .setHeaterMode _ => true
  | .setSagEnable _ => true
  | .setSagThreshold _ => true
  | .setRampPosition _ => true
  | .get _ => true
  | .clearCounters => true
  | .clearFlags => true
  | .clearLatch => true
  | .query => true
  | .start => true
  | .stop => true
  | .shoot _ => true
  | .measure _ => true
  | .openTable _ => true
  | .close _ _ => true
  | .commit _ _ => true
  | .measurePeriodExpiry => true
  | .conversionComplete _ => true
  | .blankingWindowExpiry => true
  | .heaterPeriodExpiry => true
  | .heaterOnPhaseExpiry => true
  | .linkGapTimeout _ => true
  | .transmissionComplete _ => true
  | .millisecondEdge => true
  | .byteReceived _ _ _ => true
  | .comparatorLevelChange _ => true
  | .trigOrServiceHigh _ => true
  | .supokChangeInReset => true

end Sys2Proof
end

