-- ==== Sys2Proof/Certificates/Slice0/Obligations.lean ====
section
/-! DEFINITION. The statements about the model, for the provers. A packet command's statement speaks of the state `x`
in which its packet meets its block (`Handed`, `Served`, `Noticed` in Sys2Proof.Safety). Where a command ends with the
evaluations of outputs and session that close an event, its next state is written with `State.settle` or
`State.conclude`, what those leave alone and what they set being statements of their own. -/

open Sys2Proof Sys2Proof.Machine

/-! ### The block's interface -/

/-- The command at the front of the queue is run on the rest of the queue; on an empty queue the part idles (log 16). -/
def Obligations.StepTakesCommandsInOrder : Prop :=
  (∀ (c : Instr) (rest : List Instr) (s : State), step { s with pending := c :: rest } = exec c { s with pending := rest }) ∧
  (∀ s : State, s.pending = [] → step s = .next s)

/-- Every command answers a next state, in every state, and its meaning leaves the queue of commands alone. That it answers
one in states that cannot produce its event is the model's choice (log 1, DESIGN CHOICE). -/
def Obligations.EveryCommandAnswersNext : Prop :=
  ∀ (c : Instr) (s : State), ∃ t, exec c s = .next t ∧ t.pending = s.pending

/-- R12: cold start takes calendar, phase and day offset 0, domain RESET and every default of the owning chapters, from
any state; `State.reset` is that state. The fourteen banks are EMPTY, every timeout is idle, and both ports hold no packet;
that their receivers hunt already is the model's choice (log 24). The levels of the inputs and of the comparator, the duty of
the heater period and the values last presented are its choices too (log 5, log 6, log 10, log 24), and are not stated. -/
def Obligations.ColdStartTakesDefaults : Prop :=
  ∀ s : State, ∃ t, exec .coldStart s = .next t ∧ t = { State.reset with pending := s.pending } ∧
    t.time = ⟨0, 0, 0, .reset⟩ ∧
    t.sched = ⟨.stopped, none, 0, none, .idle, 0⟩ ∧ t.ramp = ⟨0, 0, 0⟩ ∧
    t.queue = ⟨[], .unpowered, 0, none, .idle, .idle, .idle, .idle, .idle⟩ ∧
    t.retention.lastKeptCenter = none ∧
    t.session = ⟨.off, 0, .idle, .idle, .idle, .idle, false, 0⟩ ∧
    (t.rails.capture = false ∧ t.rails.recorder = false ∧ t.rails.heater = false ∧ t.rails.demand = false ∧
      t.rails.cycleHold = false ∧ t.rails.moduleLatch = false ∧ t.rails.band = none ∧
      t.rails.heaterPeriod = .idle ∧ t.rails.heaterOnPhase = .idle ∧ t.rails.phaseOn = false) ∧
    (t.meas.converting = none ∧ t.meas.requests = ⟨false, false, false⟩ ∧ t.meas.sagLatch = false ∧
      t.meas.conversion = .idle ∧ t.meas.measurePeriod = .idle ∧ t.meas.blanking = .idle ∧
      t.meas.lastBattery = none ∧ t.meas.lastTemperature = none ∧ t.meas.lastAux = none ∧ t.meas.tier = .unset) ∧
    ([t.store.window.active.valid, t.store.window.staged.valid, t.store.program.active.valid,
        t.store.program.staged.valid, t.store.ladder.active.valid, t.store.ladder.staged.valid,
        t.store.correction.active.valid, t.store.correction.staged.valid, t.store.retention.active.valid,
        t.store.retention.staged.valid, t.store.tier.active.valid, t.store.tier.staged.valid,
        t.store.thermal.active.valid, t.store.thermal.staged.valid] = List.replicate 14 false ∧
      t.store.load = none ∧ t.store.commit = none) ∧
    t.plink = ⟨.hunting, .idle, [], []⟩ ∧ t.slink = ⟨.hunting, .idle, [], []⟩ ∧
    (∀ k : Counter, t.counters.value k = 0) ∧
    t.flags = ⟨false, false, false, false, false, false⟩ ∧ t.inputs = ⟨false, false, false⟩ ∧
    (t.settings.capacity = 4 ∧ t.settings.warmUp = 3 ∧ t.settings.keepWarm = 30 ∧ t.settings.bootLimit = 2000 ∧
      t.settings.exposureAllowance = 500 ∧ t.settings.faultLimit = 3 ∧ t.settings.deliveryTimeout = 30 ∧
      t.settings.offerWindow = 2000 ∧ t.settings.readyTimeout = 20 ∧ t.settings.awakeLimit = 600 ∧
      t.settings.restSpan = 60 ∧ t.settings.refractory = 10 ∧ t.settings.triggerEnable = false ∧
      t.settings.serviceEnable = true ∧ t.settings.captureMode = .auto ∧ t.settings.heaterMode = .auto ∧
      t.settings.blankLength = 50 ∧ t.settings.blankEdges = [.captureOn, .recorderOn, .heaterOn] ∧
      t.settings.sagThreshold = 6000 ∧ t.settings.sagEnable = true ∧ t.settings.sagMode = .cycle ∧
      t.settings.measurePeriod = 300 ∧ t.settings.heaterPeriod = 20 ∧ t.settings.autorun = false)

/-- The invariants of the model hold at cold start. -/
def Obligations.InvariantsHoldAtColdStart : Prop :=
  OutputsSafe State.reset ∧ PortsBounded State.reset ∧ QueueSound State.reset ∧ StoreSound State.reset ∧
    MainHeld State.reset ∧ ReceivedNamed State.reset ∧ HeadsWait State.reset

/-! ### Invariants that every step keeps -/

/-- The outputs stay at or below their ownership chains, the recorder rail follows the session, and a capture rail that
is off leaves an empty queue and an UNPOWERED module. -/
def Obligations.StepKeepsOutputsSafe : Prop :=
  ∀ s t : State, OutputsSafe s → QueueSound s → step s = .next t → OutputsSafe t

/-- The Shot Queue stays within CAPACITY, its tags distinct, at most one record OFFERED or RELEASING; the millisecond phase
stays below 1,000 and the receive queues hold at most four packets. By well-formed commands, every packet of a receive queue
stays one that its port accepts, and after every step in RUN the packet at the head of a receive queue is one whose condition
does not hold: whatever could be handed over has been. By 11 R193 each hand-over is an event of its own; that it is made in the
step of the event that lets it through, on which this last clause rests, is the model's choice (log 4, DESIGN CHOICE). -/
def Obligations.StepKeepsQueueAndPortsSound : Prop :=
  (∀ s t : State, QueueSound s → step s = .next t → QueueSound t) ∧
  (∀ s t : State, PortsBounded s → step s = .next t → PortsBounded t) ∧
  (∀ s t : State, (∀ c, s.pending.head? = some c → WellFormed c = true) → ReceivedNamed s → step s = .next t →
    ReceivedNamed t) ∧
  (∀ s t : State, (∀ c, s.pending.head? = some c → WellFormed c = true) → ReceivedNamed s → MainHeld s → HeadsWait s →
    step s = .next t → HeadsWait t)

/-- Every VALID bank has passed its table's checks, an open transaction's staged bank is EMPTY, and a pending commit's
staged banks are VALID. -/
def Obligations.StepKeepsTableStoreSound : Prop :=
  ∀ s t : State, StoreSound s → step s = .next t → StoreSound t

/-- While the main domain is held its items stand at the values of RESET and power-bad. That in RESET they stand at them
from the entry on, and not from the release, is the model's reading (log 17, DEDUCED). -/
def Obligations.StepKeepsMainDomainHeld : Prop :=
  ∀ s t : State, MainHeld s → step s = .next t → MainHeld t

/-! ### The end of an event -/

/-- What the end of an event leaves alone: time, schedule but for the pending slot, ramp, retention, settings, flags, inputs,
pins, latches, band and heater period, results and tier, failure count, the banks but for those of an abandoned load, and
all counters but four (07 R126, R132, R142, 06 R112, R122, 08 R154). Outputs, demand, queue, session, converter, both ports,
the pending slot and the load transaction may change; the order of its parts is the model's (log 7, DEDUCED). Outside
CLOSING, where the event can end the session, the whole Table Store and the out-of-session counter stay.
An event that touches only the recorder rail and the heater changes these two outputs, the converter and its requests, the
blanking window and the spoiled conversions alone. -/
def Obligations.EndOfEventFrame : Prop :=
  (∀ (why : SkipReason) (before s : State),
    EventFrame s (State.conclude why before s) ∧ EventFrame s (State.settle why before s) ∧
    ∀ k : Counter, k ≠ .lost → k ≠ why.counter → k ≠ .spoiledConversions → k ≠ .outOfSession →
      (State.conclude why before s).counters.value k = s.counters.value k ∧
      (State.settle why before s).counters.value k = s.counters.value k) ∧
  (∀ (why : SkipReason) (before s t : State), t = State.conclude why before s ∨ t = State.settle why before s →
    s.session.state ≠ .closing →
    t.store = s.store ∧ t.counters.outOfSession = s.counters.outOfSession) ∧
  (∀ before s : State,
    let t := State.concludeLoads before s
    t = { s with
      rails := { s.rails with recorder := t.rails.recorder, heater := t.rails.heater }
      meas := { s.meas with
        converting := t.meas.converting, conversion := t.meas.conversion, requests := t.meas.requests
        blanking := t.meas.blanking }
      counters := t.counters } ∧
    ∀ k : Counter, k ≠ .spoiledConversions → t.counters.value k = s.counters.value k)

/-- R126, R127, R128: after an event that presents to the Rail Controller (State.settle), each output stands at the level
of its ownership chain, read from the state the event leaves; recorder rail and heater do so after every end of an event,
and the capture rail after State.conclude by the demand that stood before it. The capture rail's automatic demand is
evaluated there: present with a starting source, else kept while the time to the next shot lies within KEEP-WARM; once
more after any off edge, whose flush leaves the warm-up demand as the only starting source. Without a presentation and an
off edge it is kept. -/
def Obligations.OutputsTakeChainLevels : Prop :=
  (∀ (why : SkipReason) (before s t : State),
    t = State.settle why before s ∨ t = State.conclude why before s ∨ t = State.concludeLoads before s →
    (t.rails.recorder = true ↔ t.time.domain = .run ∧ t.session.state ≠ .off) ∧
    (t.rails.heater = true ↔
      t.time.domain = .run ∧ t.queue.has .ordered = false ∧ t.meas.sagLatch = false ∧ t.tierBansHeat = false ∧
        (t.settings.heaterMode = .on ∨
          (t.settings.heaterMode = .auto ∧ t.rails.phaseOn = true ∧ 0 < t.rails.periodDuty)))) ∧
  ∀ (why : SkipReason) (before s : State),
    let t := State.settle why before s
    (t.rails.capture = true ↔
      t.time.domain = .run ∧ t.rails.moduleLatch = false ∧ t.bandForbids = false ∧ t.rails.cycleHold = false ∧
        (t.settings.captureMode = .on ∨ (t.settings.captureMode = .auto ∧ t.rails.demand = true))) ∧
    ((State.conclude why before s).rails.capture = true ↔
      s.time.domain = .run ∧ s.rails.moduleLatch = false ∧ s.bandForbids = false ∧ s.rails.cycleHold = false ∧
        (s.settings.captureMode = .on ∨ (s.settings.captureMode = .auto ∧ s.rails.demand = true))) ∧
    (State.concludeLoads before s).rails.capture = s.rails.capture ∧
    let starts := s.rails.warmUp = true ∨ s.sched.slot ≠ none ∨ s.queue.records ≠ [] ∨ s.queue.relay = .inProgress
    let warm := ∃ n, s.rails.timeToNext = some n ∧ n ≤ (s.settings.keepWarm : Int)
    (¬ (s.rails.capture = true ∧ t.rails.capture = false) →
      (t.rails.demand = true ↔ starts ∨ (s.rails.demand = true ∧ warm))) ∧
    (s.rails.capture = true → t.rails.capture = false →
      (t.rails.demand = true ↔ s.rails.warmUp = true ∨ ((starts ∨ s.rails.demand = true) ∧ warm))) ∧
    (¬ (s.rails.capture = true ∧ (State.conclude why before s).rails.capture = false) →
      (State.conclude why before s).rails.demand = s.rails.demand) ∧
    (s.rails.capture = true → (State.conclude why before s).rails.capture = false →
      ((State.conclude why before s).rails.demand = true ↔
        s.rails.warmUp = true ∨ (s.rails.demand = true ∧ warm)))

/-- R68, R132, R63, R25: at the end of an event, the capture rail's off edge flushes the queue, empties the S-link and ends a
pending shot, counted under its reason; its on edge starts a boot and leaves the rest. Without an off edge the S-link, the
slot, every timer of the queue but the boot timer, the relay and the counters of the flush stay as they are, and so do the
records but for an offer in AWAKE (OfferTestOffersTheOldestHeld). Without an edge module and boot timer stay too. -/
def Obligations.CaptureEdgesReachTheQueue : Prop :=
  (∀ (why : SkipReason) (before s : State), (State.conclude why before s).rails.capture = s.captureLevel) ∧
  ∀ (why : SkipReason) (before s t : State), t = State.conclude why before s ∨ t = State.settle why before s →
    (s.rails.capture = true → t.rails.capture = false →
      t.queue = { s.queue with
        records := [], module := .unpowered, bootTimer := .idle, deadline := .idle, deliveryTimer := .idle
        relay := .idle, relayLimit := .idle } ∧
      t.slink = { s.slink with rx := [], tx := [] } ∧ t.sched.slot = none ∧
      t.counters.lost = satAdd s.counters.lost s.queue.records.length ∧
      (s.sched.slot ≠ none →
        t.counters.value why.counter = satInc (s.counters.value why.counter)) ∧
      (s.sched.slot = none → t.counters.value why.counter = s.counters.value why.counter) ∧
      (s.sched.slot ≠ none → why = .module →
        t.counters.skippedModule = satInc s.counters.skippedModule) ∧
      (s.sched.slot ≠ none → why = .protection →
        t.counters.skippedProtected = satInc s.counters.skippedProtected)) ∧
    (s.rails.capture = false → t.rails.capture = true →
      t.queue.module = .booting ∧ t.queue.bootTimer = Timer.start s.settings.bootLimit) ∧
    (t.rails.capture = s.rails.capture →
      t.queue.module = s.queue.module ∧ t.queue.bootTimer = s.queue.bootTimer) ∧
    (¬ (s.rails.capture = true ∧ t.rails.capture = false) →
      t.slink = s.slink ∧ t.sched.slot = s.sched.slot ∧
      t.queue = { s.queue with
        records := t.queue.records, module := t.queue.module, bootTimer := t.queue.bootTimer } ∧
      (s.session.state ≠ .awake → t.queue.records = s.queue.records) ∧
      t.counters.lost = s.counters.lost ∧ t.counters.value why.counter = s.counters.value why.counter)

/-- R122: a session end leaves the session OFF unless the wake evaluation of the same event begins a new wake, with its
timers, transaction and transmit queue given up and the rest span running; packets left in the P-link receive queue are
discarded, each counted out-of-session. That they are so before a wake of the same event, at REST SPAN 0, is the model's choice
(log 34, DESIGN CHOICE). -/
def Obligations.SessionEndEffects : Prop :=
  ∀ s : State,
    let t := s.endSession
    (t.session.state = .off ∨ (t.session.state = .waking ∧ s.settings.restSpan = 0 ∧ s.time.domain = .run)) ∧
    t.session.awakeTimer = .idle ∧ t.session.offerTimer = .idle ∧
    t.session.offerSent = false ∧ t.session.timeouts = 0 ∧
    (t.session.state = .off → t.session.readyTimer = .idle ∧ t.session.wakesToday = s.session.wakesToday) ∧
    t.session.restTimer = Timer.startSeconds s.settings.restSpan ∧
    t.store = s.store.abandon ∧ t.store.load = none ∧ t.store.commit = s.store.commit ∧
    t.plink = { s.plink with rx := [], tx := [] } ∧ t.queue = s.queue ∧ t.slink = s.slink ∧
    t.counters = s.counters.put .outOfSession (satAdd s.counters.outOfSession s.plink.rx.length)

/-- R97 to R103, R107: an evaluation made while OFF and in RUN begins a wake exactly when demand exists and the four gates
are open. The end of an event makes that evaluation in OFF (R100), from the records that it leaves, none after a capture
off edge; in WAKING it leaves the session and the P-link alone. The age of the oldest HELD record is the calendar less its
held since, 0 while that lies in the future. -/
def Obligations.AutomaticWakeNeedsDemandAndGates : Prop :=
  (∀ s : State, s.time.domain = .run → s.session.state = .off →
    let held := s.queue.number .held
    let demand :=
      (∃ r, s.tierRow = some r ∧ r.batch ≤ held) ∨
      (∃ r a, s.tierRow = some r ∧ s.heldAge = some a ∧ r.holdLimit ≤ a) ∨
      (s.queue.records.length = s.settings.capacity ∧ 0 < held)
    let gates :=
      s.pins.supok = true ∧ s.session.restTimer = .idle ∧ s.meas.tier ≠ .unset ∧
      ∃ r, s.tierRow = some r ∧ (r.allowance = 255 ∨ s.session.wakesToday.toNat < r.allowance)
    (demand ∧ gates →
      s.evaluateWake = { s with session := { s.session with
        state := .waking, wakesToday := satInc s.session.wakesToday,
        readyTimer := Timer.startSeconds s.settings.readyTimeout } }) ∧
    (¬ (demand ∧ gates) → s.evaluateWake = s)) ∧
  (∀ (why : SkipReason) (before s t : State), t = State.conclude why before s ∨ t = State.settle why before s →
    let left : State := { s with queue := { s.queue with
      records := if s.rails.capture = true ∧ t.rails.capture = false then [] else s.queue.records } }
    (s.session.state = .off → t.session = left.evaluateWake.session ∧ t.plink = s.plink) ∧
    (s.session.state = .waking → t.session = s.session ∧ t.plink = s.plink)) ∧
  (∀ s : State,
    (s.queue.oldest .held = none → s.heldAge = none) ∧
    (∀ r v, s.queue.oldest .held = some r → r.heldSince = some v →
      s.heldAge = some (s.time.calendar.toNat - v.toNat)))

/-- R61, R62, R112, R78: in AWAKE, with no record OFFERED or RELEASING, the oldest HELD record is offered; otherwise
nothing is. The end of an event makes that test in AWAKE, on the records that it leaves, none after a capture off edge; an
event that leaves no record OFFERED and makes no offer cancels the offer timer. What the terms for the records of a state,
the oldest of them and the record of a tag say. -/
def Obligations.OfferTestOffersTheOldestHeld : Prop :=
  (∀ s : State,
    (∀ r, s.session.state = .awake → s.queue.has .offered = false → s.queue.has .releasing = false →
      s.queue.oldest .held = some r →
      s.offerTest = { s with
        queue := s.queue.alter r.tag (fun x => { x with state := .offered })
        session := { s.session with offerTimer := Timer.start s.settings.offerWindow, offerSent := false }
        plink := { s.plink with tx := s.plink.tx ++ [offerPacket r] } }) ∧
    ((s.session.state ≠ .awake ∨ s.queue.has .offered = true ∨ s.queue.has .releasing = true ∨
        s.queue.oldest .held = none) → s.offerTest = s)) ∧
  (∀ (why : SkipReason) (before s t : State), t = State.conclude why before s ∨ t = State.settle why before s →
    s.session.state = .awake →
    let offEdge := s.rails.capture = true ∧ t.rails.capture = false
    let calm := { s.session with
      offerTimer := if s.queue.has .offered = true then s.session.offerTimer else .idle }
    (offEdge → t.queue.records = [] ∧ t.session = { s.session with offerTimer := .idle } ∧ t.plink = s.plink) ∧
    (∀ r, ¬ offEdge → s.queue.has .offered = false → s.queue.has .releasing = false → s.queue.oldest .held = some r →
      t.queue.records = s.queue.records.map (fun q : ShotRecord =>
        if q.tag = r.tag then { q with state := .offered } else q) ∧
      t.session = { s.session with offerTimer := Timer.start s.settings.offerWindow, offerSent := false } ∧
      t.plink = { s.plink with tx := s.plink.tx ++ [offerPacket r] }) ∧
    (¬ offEdge → (s.queue.has .offered = true ∨ s.queue.has .releasing = true ∨ s.queue.oldest .held = none) →
      t.queue.records = s.queue.records ∧ t.session = calm ∧ t.plink = s.plink)) ∧
  (∀ (q : ShotQueue) (st : RecState) (tag : Byte),
    (q.has st = true ↔ ∃ r ∈ q.records, r.state = st) ∧
    q.number st = (q.records.filter (fun r => decide (r.state = st))).length ∧
    (∀ pre r post, q.records = pre ++ r :: post → r.state = st → (∀ x ∈ pre, x.state ≠ st) → q.oldest st = some r) ∧
    ((∀ r ∈ q.records, r.state ≠ st) → q.oldest st = none) ∧
    (∀ pre r post, q.records = pre ++ r :: post → r.number.setWidth 8 = tag →
      (∀ x ∈ pre, x.number.setWidth 8 ≠ tag) → q.withTag tag = some r) ∧
    ((∀ r ∈ q.records, r.number.setWidth 8 ≠ tag) → q.withTag tag = none))

/-- R141, R142, R149, R153, R154: a selected edge opens the window at full length and spoils a conversion; the arbiter
starts the lowest pending channel when its conditions hold. The kind of each edge of an output; and the end of every event
reports the edges between the outputs before it and those it leaves. -/
def Obligations.BlankingAndArbiter : Prop :=
  (∀ s : State,
    let t := s.openBlanking.spoil
    (s.settings.blankLength ≠ 0 → t.meas.blanking = Timer.start s.settings.blankLength) ∧
    (s.settings.blankLength = 0 → t.meas.blanking = s.meas.blanking) ∧
    (∀ c, s.meas.converting = some c →
      t.meas.converting = none ∧ t.meas.conversion = .idle ∧ t.meas.requests = s.meas.requests.put c true ∧
      t.counters = s.counters.put .spoiledConversions (satInc s.counters.spoiledConversions)) ∧
    (s.meas.converting = none → t.meas.converting = none ∧ t.meas.requests = s.meas.requests ∧
      t.counters = s.counters) ∧
    t.meas.lastBattery = s.meas.lastBattery ∧ t.meas.lastTemperature = s.meas.lastTemperature ∧
    t.meas.lastAux = s.meas.lastAux ∧ t.meas.tier = s.meas.tier ∧ t.rails = s.rails) ∧
  (∀ before s : State,
    ((∃ k ∈ outputEdges before.rails s.rails, k ∈ s.settings.blankEdges) →
      State.reportEdges before s = s.openBlanking.spoil.arbitrate) ∧
    ((∀ k ∈ outputEdges before.rails s.rails, k ∉ s.settings.blankEdges) → State.reportEdges before s = s)) ∧
  (∀ (s : State) (c : Channel),
    s.time.domain = .run → s.meas.converting = none → s.meas.blanking = .idle →
    (c = .battery ∧ s.meas.requests.battery = true ∨
     c = .temperature ∧ s.meas.requests.battery = false ∧ s.meas.requests.temperature = true ∨
     c = .aux ∧ s.meas.requests.battery = false ∧ s.meas.requests.temperature = false ∧
       s.meas.requests.aux = true) →
    s.arbitrate = { s with meas := { s.meas with
      converting := some c, conversion := .running 5, requests := s.meas.requests.put c false } }) ∧
  (∀ s : State,
    (s.time.domain ≠ .run ∨ s.meas.converting ≠ none ∨ s.meas.blanking ≠ .idle ∨
      s.meas.requests = ⟨false, false, false⟩) → s.arbitrate = s) ∧
  (∀ a b : Rails,
    (.captureOn ∈ outputEdges a b ↔ a.capture = false ∧ b.capture = true) ∧
    (.captureOff ∈ outputEdges a b ↔ a.capture = true ∧ b.capture = false) ∧
    (.recorderOn ∈ outputEdges a b ↔ a.recorder = false ∧ b.recorder = true) ∧
    (.recorderOff ∈ outputEdges a b ↔ a.recorder = true ∧ b.recorder = false) ∧
    (.heaterOn ∈ outputEdges a b ↔ a.heater = false ∧ b.heater = true) ∧
    (.heaterOff ∈ outputEdges a b ↔ a.heater = true ∧ b.heater = false)) ∧
  (∀ (why : SkipReason) (before s t : State),
    t = State.settle why before s ∨ t = State.conclude why before s ∨ t = State.concludeLoads before s →
    ((∃ k ∈ outputEdges before.rails t.rails, k ∈ s.settings.blankEdges) →
      t.meas = s.openBlanking.spoil.arbitrate.meas ∧
      t.counters.spoiledConversions = s.openBlanking.spoil.counters.spoiledConversions) ∧
    ((∀ k ∈ outputEdges before.rails t.rails, k ∉ s.settings.blankEdges) →
      t.meas = s.meas ∧ t.counters.spoiledConversions = s.counters.spoiledConversions)) ∧
  (∀ (r : Requests) (b : Bool),
    r.put .battery b = { r with battery := b } ∧ r.put .temperature b = { r with temperature := b } ∧
    r.put .aux b = { r with aux := b })

/-! ### Time -/

/-- R8: a timeout of n ms, n above 0, is due at the (n+1)-th edge after its start and not before; one of length 0 is not
started; a duration in seconds counts 1,000 ms each; the refractory timer's expiry leaves it over (R28). That a running
timer holds the edges that remain is the model's reading (log 2, DEDUCED), and that REFRACTORY_EXPIRY before they are over
changes nothing its choice (log 1, DESIGN CHOICE). -/
def Obligations.TimeoutsCountMillisecondEdges : Prop :=
  (∀ n k : Nat, 0 < n → ((Timer.start n).age k).due = decide (n + 1 ≤ k)) ∧
  Timer.start 0 = .idle ∧
  (∀ n k : Nat, 0 < n → ((Timer.startSeconds n).age k).due = decide (n * 1000 + 1 ≤ k)) ∧
  (∀ (a b : Nat) (t : Timer), (t.age a).age b = t.age (a + b)) ∧
  (∀ s : State, s.sched.refractory.due = true →
    exec .refractoryExpiry s = .next { s with sched := { s.sched with refractory := .idle } }) ∧
  (∀ s : State, s.sched.refractory.due = false → exec .refractoryExpiry s = .next s)

/-- R1 to R4, R7, R18: an edge counts every timeout down by one and the phase up by one; the edge that completes the
second is the second tick, which moves the calendar on by one, in every supply-domain state, and sets wakes-today to 0
when the day number changes (in RUN an automatic wake of the same event may then count one). In RESET nothing takes the
tick; while STOPPED it leaves elapsed, window and slot as they are, in POWER_BAD with nothing else, in RUN with neither
warm-up demand nor time to the next shot presented and the end of the event. Every millisecond edge has a next state. That
the edge at phase 999 is the command SECOND_TICK, and that SECOND_TICK at any phase ages the timers by the edges left in
the second, is the model's choice (log 3, DESIGN CHOICE), and so is that the rollover of a tick clears wakes-today before
the tick's own wake counts (log 31, DESIGN CHOICE). Day number and second of day are the quotient and the remainder of
calendar plus day offset by 86,400. -/
def Obligations.MillisecondStreamAndSecondTick : Prop :=
  (∀ t : TimeBase,
    (t.calendar.toNat : Int) + t.dayOffset = t.dayNumber * 86400 + t.secondOfDay ∧ t.secondOfDay < 86400) ∧
  (∀ (s : State) (n : Nat), s.ageTimers n = { s with
    sched := { s.sched with refractory := s.sched.refractory.age n }
    queue := { s.queue with
      bootTimer := s.queue.bootTimer.age n, deadline := s.queue.deadline.age n
      deliveryTimer := s.queue.deliveryTimer.age n, relayLimit := s.queue.relayLimit.age n }
    session := { s.session with
      readyTimer := s.session.readyTimer.age n, awakeTimer := s.session.awakeTimer.age n
      offerTimer := s.session.offerTimer.age n, restTimer := s.session.restTimer.age n }
    rails := { s.rails with
      heaterPeriod := s.rails.heaterPeriod.age n, heaterOnPhase := s.rails.heaterOnPhase.age n }
    meas := { s.meas with
      conversion := s.meas.conversion.age n, measurePeriod := s.meas.measurePeriod.age n
      blanking := s.meas.blanking.age n }
    plink := { s.plink with gap := s.plink.gap.age n }
    slink := { s.slink with gap := s.slink.gap.age n } }) ∧
  (∀ s : State, s.time.phase < 999 →
    exec .millisecondEdge s =
      .next { s.ageTimers 1 with time := { s.time with phase := s.time.phase + 1 } }) ∧
  (∀ s : State, s.time.phase = 999 → exec .millisecondEdge s = exec .secondTick s) ∧
  (∀ s : State, ∃ t, exec .millisecondEdge s = .next t ∧ t.pending = s.pending ∧ t.settings = s.settings ∧
    t.time = if s.time.phase < 999 then { s.time with phase := s.time.phase + 1 }
      else { s.time with calendar := s.time.calendar + 1, phase := 0 }) ∧
  (∀ s : State,
    let now := { s.time with calendar := s.time.calendar + 1, phase := 0 }
    let wakes := if s.time.dayNumber = now.dayNumber then s.session.wakesToday else 0
    let aged := s.ageTimers (1000 - s.time.phase)
    let ticked : State := { aged with time := now, session := { aged.session with wakesToday := wakes } }
    (s.time.domain = .reset → exec .secondTick s = .next ticked) ∧
    (s.sched.state = .stopped → s.time.domain = .powerBad → exec .secondTick s = .next ticked) ∧
    (s.sched.state = .stopped → s.time.domain = .run →
      exec .secondTick s = .next (State.settle .protection ticked { ticked with
        rails := { ticked.rails with timeToNext := none, warmUp := false } })) ∧
    ∃ t, exec .secondTick s = .next t ∧ t.time = now ∧ t.settings = s.settings ∧ t.flags = s.flags ∧
      t.inputs = s.inputs ∧ t.pins = s.pins ∧ t.pending = s.pending ∧
      (s.time.domain = .powerBad → t.session.wakesToday = wakes) ∧
      (s.time.domain = .run → t.session.wakesToday = wakes ∨ t.session.wakesToday = satInc wakes))

/-- R15, R18, R19, R20, R7: with no commit pending, a tick taken while RUNNING enters the row that starts at its second of
day (the tick of the calendar wrap re-selects silently), and a scheduled shot is due by a shoot-at-start entry or when
elapsed reaches the effective interval; elapsed is then 0, and one more otherwise. In general (R20, R22, R26, R32, R158) a
commit pending at NEXT_WINDOW is made before an entry by passing time; a due shot has elapsed 0, clears the sag latch in
CYCLE mode with the comparator released, makes a commit pending at NEXT_SHOT, and is handled; then the time to the next
shot and the warm-up demand are presented, and a warm-up demand that begins clears the cycle hold. The row
that contains a second of day and the row that starts at it are said too. The model's readings:
SECOND_TICK at any phase ages the timers by the edges left in the second (log 3, DESIGN CHOICE), the rollover clears
wakes-today before the tick's own wake counts (log 31, DESIGN CHOICE), the entry and the swap of
one tick each advance the generation by their own rule (log 9, DEDUCED), at the wrap the comparison is with the re-selected
window (log 29, DESIGN CHOICE), SUSPEND is read before the swap (log 8, DEDUCED), and the presentation after it (log 30,
DESIGN CHOICE). -/
def Obligations.RunningTickCountsAndEnters : Prop :=
  (∀ s : State, s.sched.state = .running → s.time.domain ≠ .reset → s.store.commit = none →
    let now := { s.time with calendar := s.time.calendar + 1, phase := 0 }
    let rows := s.store.window.active.rows
    let starts := windowStarting rows now.secondOfDay
    let wraps := s.time.calendar = 0xFFFFFFFF
    let current := if wraps then windowAt rows now.secondOfDay else
      match starts with
      | some i => some i
      | none => s.sched.window
    let due :=
      (¬ wraps ∧ ∃ i r, starts = some i ∧ rows[i]? = some r ∧ r.shootAtStart = true) ∨
      (∃ i r, current = some i ∧ rows[i]? = some r ∧
        min 86400 (r.interval * s.stretch.factor) ≤ s.sched.elapsed + 1)
    ∃ t, exec .secondTick s = .next t ∧ t.sched.state = .running ∧ t.sched.window = current ∧
      (due → t.sched.elapsed = 0) ∧ (¬ due → t.sched.elapsed = s.sched.elapsed + 1)) ∧
  (∀ s : State, s.sched.state = .running → s.time.domain ≠ .reset →
    let a := s.ageTimers (1000 - s.time.phase)
    let now := { s.time with calendar := s.time.calendar + 1, phase := 0 }
    let old : State := { a with
      time := now
      session := { a.session with
        wakesToday := if s.time.dayNumber = now.dayNumber then s.session.wakesToday else 0 } }
    let counted : State := { old with sched := { a.sched with elapsed := s.sched.elapsed + 1 } }
    let starts (x : State) := windowStarting x.store.window.active.rows now.secondOfDay
    let swapped := match s.store.commit with
      | some ⟨ts, .nextWindow⟩ => counted.swap ts
      | _ => counted
    let wraps := s.time.calendar = 0xFFFFFFFF
    let entered :=
      if wraps then State.entryClamp { counted with
        sched := { counted.sched with window := windowAt s.store.window.active.rows now.secondOfDay } }
      else match starts s with
        | none => counted
        | some _ => match starts swapped with
          | none => swapped
          | some i => State.entryClamp { swapped with sched := { swapped.sched with window := some i } }
    let due :=
      (¬ wraps ∧ starts s ≠ none ∧ ∃ i r, starts swapped = some i ∧ swapped.store.window.active.rows[i]? = some r ∧
        r.shootAtStart = true) ∨
      (∃ i r, entered.sched.window = some i ∧ entered.store.window.active.rows[i]? = some r ∧
        min 86400 (r.interval * entered.stretch.factor) ≤ s.sched.elapsed + 1)
    let ends (y : State) : State := if s.time.domain = .run then State.settle .protection old y.present else y
    (due → exec .secondTick s = .next (ends entered.scheduledShotDue)) ∧
    (¬ due → exec .secondTick s = .next (ends entered))) ∧
  (∀ s : State,
    let zero : State := { s with
      sched := { s.sched with elapsed := 0 }
      meas := { s.meas with
        sagLatch := if s.settings.sagMode = .cycle ∧ s.meas.tripped = false then false else s.meas.sagLatch } }
    let swapped := match s.store.commit with
      | some ⟨ts, .nextShot⟩ => zero.swap ts
      | _ => zero
    s.scheduledShotDue = swapped.takeDueShot .scheduled (decide (s.stretch = .suspend))) ∧
  (∀ s : State,
    let row := s.sched.window.bind (fun i => s.store.window.active.rows[i]?)
    let next : Option Int := if s.sched.state = .running ∧ s.stretch ≠ .suspend
      then row.map (fun r => ((min 86400 (r.interval * s.stretch.factor) : Nat) : Int) - s.sched.elapsed) else none
    let warm : Bool := match next with
      | some n => decide (0 < s.settings.warmUp ∧ n ≤ (s.settings.warmUp : Int))
      | none => false
    s.present = { s with rails := { s.rails with
      timeToNext := next, warmUp := warm
      cycleHold := if s.rails.warmUp = false ∧ warm = true then false else s.rails.cycleHold } } ∧
    s.nextShotIn = next ∧ warmUpFor s.settings.warmUp next = warm) ∧
  (∀ (rows : List WindowRow) (d : Nat), rows.Pairwise (fun a b => a.start < b.start) →
    (∀ i r, rows[i]? = some r → r.start ≤ d → (∀ q, rows[i + 1]? = some q → d < q.start) → windowAt rows d = some i) ∧
    (∀ r, rows.head? = some r → d < r.start → windowAt rows d = some (rows.length - 1)) ∧
    (rows = [] → windowAt rows d = none) ∧
    (∀ i r, rows[i]? = some r → r.start = d → windowStarting rows d = some i) ∧
    ((∀ r ∈ rows, r.start ≠ d) → windowStarting rows d = none))

/-- R22, R19, R31, R35: a shot that has fallen due or been raised is taken by the first stage that holds, and each skip
counts one under its reason and changes nothing else. -/
def Obligations.DueShotIsTakenByItsFirstStage : Prop :=
  ∀ (kind : PendingKind) (s : State),
    let forbidden := s.settings.captureMode = .off ∨ s.rails.moduleLatch = true ∨ s.bandForbids = true
    let specs := s.specsOf ⟨kind, s.time.calendar, none⟩
    s.takeDueShot kind true = s.count .skippedSuspended ∧
    (s.time.domain ≠ .run → s.takeDueShot kind false = s.count .skippedPower) ∧
    (s.time.domain = .run → forbidden → s.takeDueShot kind false = s.count .skippedProtected) ∧
    (s.time.domain = .run → ¬ forbidden → s.queue.module = .ready →
      (specs.length + s.queue.records.length ≤ s.settings.capacity → s.takeDueShot kind false = s.issue specs) ∧
      (s.settings.capacity < specs.length + s.queue.records.length → specs ≠ [] →
        s.takeDueShot kind false = s.count .skippedBufferFull)) ∧
    (s.time.domain = .run → ¬ forbidden → s.queue.module ≠ .ready → s.sched.slot = none →
      s.takeDueShot kind false = { s with
        sched := { s.sched with slot := some ⟨kind, s.time.calendar, none⟩ }
        rails := { s.rails with cycleHold := false } }) ∧
    (s.time.domain = .run → ¬ forbidden → s.queue.module ≠ .ready → s.sched.slot ≠ none →
      s.takeDueShot kind false = s.count .skippedLate)

/-- R70, R30, R41 to R46, R59, R61: an issue appends one ORDERED record for each shot, stamped now, with a tag no other
record carries, hands one EXPOSE for each to the S-link, and starts the deadline watch when no record was ORDERED. The
shot number counter gives each record its next value whose tag is free, and stands one above the last given. The shots of
the current window's program: a CENTER by its ramp mode, clamped to the program, with its MEMBERs at offset × spacing
rungs from it, clamped to the ladder; an EVENT shot as a CENTER; a MANUAL shot at its rung or at the ramp position. Window
and program index are carried while RUNNING. -/
def Obligations.IssueCreatesOrderedRecords : Prop :=
  (∀ (specs : List ShotSpec) (s : State),
    (s.queue.records.map (·.tag)).Nodup → s.queue.records.length + specs.length ≤ 8 →
    ∃ new : List ShotRecord,
      (s.issue specs).queue.records = s.queue.records ++ new ∧ new.length = specs.length ∧
      new.map (·.role) = specs.map (·.role) ∧ new.map (·.offset) = specs.map (·.offset) ∧
      new.map (·.generation) = specs.map (·.generation) ∧
      new.map (·.exposure) = specs.map (fun sp => exposureAt s.ladder (sp.position : Int)) ∧
      ((s.queue.records ++ new).map (·.tag)).Nodup ∧
      (∀ r ∈ new, r.state = .ordered ∧ r.orderedAt = ⟨s.time.calendar, s.time.phase⟩ ∧ r.strobe = none ∧
        r.facts = none ∧ r.heldSince = none ∧ r.failures = 0 ∧ r.indices = s.currentIndices) ∧
      (s.issue specs).slink = { s.slink with
        tx := s.slink.tx ++ new.map (fun r => exposePacket r.tag r.exposure r.role) } ∧
      (s.queue.has .ordered = true → (s.issue specs).queue.deadline = s.queue.deadline) ∧
      (∀ r rest, s.queue.has .ordered = false → new = r :: rest →
        (s.issue specs).queue.deadline =
          Timer.start ((r.exposure.shutter + 999) / 1000 + s.settings.exposureAllowance)) ∧
      (∀ pre r post, new = pre ++ r :: post →
        let start := (pre.getLast?.map (fun q : ShotRecord => q.number + 1)).getD s.sched.nextNumber
        let used := (s.queue.records ++ pre).map (·.tag)
        ∃ k : Nat, k ≤ 7 ∧ r.number = start + BitVec.ofNat 32 k ∧ r.number.setWidth 8 ∉ used ∧
          ∀ m < k, (start + BitVec.ofNat 32 m).setWidth 8 ∈ used) ∧
      (s.issue specs).sched = { s.sched with
        nextNumber := (new.getLast?.map (fun q : ShotRecord => q.number + 1)).getD s.sched.nextNumber } ∧
      (s.issue specs).ramp = s.ramp ∧ (s.issue specs).counters = s.counters ∧ (s.issue specs).rails = s.rails) ∧
  (∀ (s : State) (i : Nat) (w : WindowRow) (p : ProgramRow) (fell : Word32),
    s.sched.window = some i → s.store.window.active.rows[i]? = some w →
    s.store.program.active.rows[w.program]? = some p →
    let into : Nat := (s.time.secondOfDay + 86400 - w.start) % 86400
    let last : Nat := 86400 - w.start + (s.store.window.active.rows.head?.map (·.start)).getD 0
    let length : Nat := (s.store.window.active.rows[i + 1]?.map (fun next => next.start - w.start)).getD last
    let free : Int := match p.mode with
      | .fixed => (p.fixedRung : Int) * 16
      | .timed => (p.timedStart : Int) * 16 + Int.tdiv (((p.timedEnd : Int) - p.timedStart) * 16 * into) length
      | .metered => s.ramp.position
    let center : Int := max ((p.floor : Int) * 16) (min free ((p.ceiling : Int) * 16))
    let member (o : Int) : ShotSpec :=
      let top : Int := ((s.store.ladder.active.rows.length - 1 : Nat) : Int) * 16
      ⟨.member, some o, (max 0 (min (center + o * p.spacing * 16) top)).toNat, none⟩
    let first : ShotSpec := ⟨.center, some 0, center.toNat, some s.ramp.generation⟩
    (p.bracketCount = 1 → s.specsOf ⟨.scheduled, fell, none⟩ = [first]) ∧
    (p.bracketCount = 3 → s.specsOf ⟨.scheduled, fell, none⟩ = [first, member (-1), member 1]) ∧
    (p.bracketCount = 5 →
      s.specsOf ⟨.scheduled, fell, none⟩ = [first, member (-1), member 1, member (-2), member 2]) ∧
    s.specsOf ⟨.event, fell, none⟩ = [⟨.event, none, center.toNat, none⟩]) ∧
  (∀ (s : State) (fell : Word32) (rung : Option Nat),
    s.specsOf ⟨.manual, fell, rung⟩ = [⟨.manual, none, match rung with
      | some r => min r ((s.store.ladder.active.rows.length - 1) * 16)
      | none => s.ramp.position, none⟩]) ∧
  (∀ s : State,
    (∀ i w, s.sched.state = .running → s.sched.window = some i → s.store.window.active.rows[i]? = some w →
      s.currentIndices = some ⟨i, w.program⟩) ∧
    (s.sched.state = .stopped → s.currentIndices = none))

/-! ### Supply domains -/

/-- R11, R13, R84, R105, R125, R146, R172, R176, R192, R194: the entry into RESET and power-bad entry hold the main
domain. RESET entry's moment is the model's choice (log 17); the pending shot and the failure count are changed at the
release. -/
def Obligations.SupplyEntriesHoldTheMainDomain : Prop :=
  ∀ (c : Instr) (d : Domain) (s : State),
    (c = .resetEntry ∧ d = .reset ∧ s.time.domain ≠ .reset) ∨
      (c = .powerBadEntry ∧ d = .powerBad ∧ s.time.domain = .run ∧ s.pins.supok = true) →
    ∃ t, exec c s = .next t ∧ t.time = { s.time with domain := d } ∧
      t.queue = ⟨[], .unpowered, s.queue.failures, s.queue.faultCode, .idle, .idle, .idle, .idle, .idle⟩ ∧
      t.session = ⟨.off, s.session.wakesToday, .idle, .idle, .idle, .idle, false, 0⟩ ∧
      t.rails = { Rails.cold with
        periodDuty := s.rails.periodDuty, moduleLatch := s.rails.moduleLatch, band := s.rails.band } ∧
      t.meas = { s.meas with
        converting := none, conversion := .idle, requests := ⟨false, false, false⟩, measurePeriod := .idle,
        blanking := .idle, sagLatch := false } ∧
      t.store = { s.store.abandon with commit := none } ∧ t.store.load = none ∧
      t.plink = ⟨.hunting, .idle, [], []⟩ ∧ t.slink = ⟨.hunting, .idle, [], []⟩ ∧
      t.ramp = s.ramp ∧ t.retention = s.retention ∧ t.settings = s.settings ∧ t.flags = s.flags ∧
      t.counters.lost = satAdd s.counters.lost s.queue.records.length ∧
      (∀ k : Counter, k ≠ .lost → k ≠ .skippedPower → t.counters.value k = s.counters.value k) ∧
      (c = .resetEntry → t.sched = s.sched ∧ t.counters.skippedPower = s.counters.skippedPower ∧
        t.inputs = s.inputs ∧ t.pins = s.pins) ∧
      (c = .powerBadEntry → t.sched = { s.sched with slot := none } ∧
        t.counters.skippedPower =
          (if s.sched.slot = none then s.counters.skippedPower else satInc s.counters.skippedPower) ∧
        t.inputs = { s.inputs with supok := true } ∧ t.pins = { s.pins with supok := false })

/-- R12, R34, R84, R86, R105, R137, R151: the release of the main domain. Backup items with a stated value take it, the
others are kept; in RUN the rest span, the heater period and the measure period start. A shot in the pending slot is
counted skipped POWER, and a release into RUNNING is an entry with its clamp, by which a scheduled shot falls due and is
handled as any other: in POWER_BAD it is skipped POWER (with SUPOK low: log 18, DEDUCED). That the comparator's level as last
sampled is then released is the model's choice (log 6, DESIGN CHOICE). -/
def Obligations.WarmResetReleasesTheMainDomain : Prop :=
  (∀ s : State, s.time.domain = .reset → MainHeld s →
    let runs := s.settings.autorun = true ∧ s.store.allValid = true
    ∃ t, exec .warmReset s = .next t ∧
      t.time = { s.time with domain := if s.pins.supok then .run else .powerBad } ∧
      (runs → t.sched.state = .running ∧ t.sched.window = windowAt s.windows s.time.secondOfDay) ∧
      (¬ runs → t.sched.state = .stopped ∧ t.sched.window = none ∧ t.sched.slot = none) ∧
      t.sched.elapsed = 0 ∧ t.sched.refractory = s.sched.refractory ∧
      t.sched.nextNumber = s.sched.nextNumber ∧
      t.queue.records = [] ∧ t.queue.failures = 0 ∧ t.queue.faultCode = none ∧
      t.retention = ⟨List.replicate s.store.retention.active.rows.length 0, s.retention.lastKeptCenter⟩ ∧
      t.store = s.store ∧ t.settings = s.settings ∧ t.flags = s.flags ∧ t.inputs = s.inputs ∧ t.pins = s.pins ∧
      t.ramp.lastCorrection = s.ramp.lastCorrection ∧
      t.rails.moduleLatch = s.rails.moduleLatch ∧ t.rails.band = s.rails.band ∧
      t.meas.tier = s.meas.tier ∧ t.meas.lastBattery = s.meas.lastBattery ∧
      t.meas.lastTemperature = s.meas.lastTemperature ∧ t.meas.lastAux = s.meas.lastAux ∧
      (s.pins.supok = true →
        t.session.restTimer = Timer.startSeconds s.settings.restSpan ∧
        t.rails.heaterPeriod = Timer.startSeconds s.settings.heaterPeriod ∧ t.rails.periodDuty = s.bandDuty ∧
        t.meas.measurePeriod = Timer.startSeconds s.settings.measurePeriod ∧
        (t.meas.requests.battery = true ∨ t.meas.converting = some .battery) ∧
        t.meas.requests.temperature = true) ∧
      (s.pins.supok = false → t.rails = s.rails ∧ t.session = s.session ∧ t.meas = s.meas ∧ t.queue.module = .unpowered)) ∧
  (∀ s : State, s.time.domain = .reset →
    let runs := s.settings.autorun = true ∧ s.store.allValid = true
    let released (d : Domain) (st : SchedState) (w : Option Nat) : State := { s with
      time := { s.time with domain := d }
      sched := { s.sched with state := st, window := w, elapsed := 0, slot := none }
      counters := if s.sched.slot = none then s.counters
        else s.counters.put .skippedPower (satInc s.counters.skippedPower)
      queue := { s.queue with failures := 0, faultCode := none }
      retention := { s.retention with
        decimation := List.replicate s.store.retention.active.rows.length 0 } }
    let started (x : State) : State := { x with
      session := { x.session with restTimer := Timer.startSeconds s.settings.restSpan }
      rails := { x.rails with
        heaterPeriod := Timer.startSeconds s.settings.heaterPeriod
        periodDuty := s.bandDuty
        phaseOn := decide (0 < s.bandDuty)
        heaterOnPhase := if 0 < s.bandDuty ∧ s.bandDuty < 16
          then Timer.start (s.bandDuty * s.settings.heaterPeriod * 1000 / 16) else .idle }
      meas := { x.meas with
        requests := ⟨true, true, false⟩, measurePeriod := Timer.startSeconds s.settings.measurePeriod
        tripped := false } }
    let entered (d : Domain) : State := released d .running (windowAt s.windows s.time.secondOfDay)
    let shot (x : State) : State := x.entryClamp.takeDueShot .scheduled (decide (s.stretch = .suspend))
    let ends (y : State) : State := (State.settle .protection s y.present).arbitrate
    (s.pins.supok = true → runs → exec .warmReset s = .next (ends (shot (started (entered .run))))) ∧
    (s.pins.supok = true → ¬ runs → exec .warmReset s = .next (ends (started (released .run .stopped none)))) ∧
    (s.pins.supok = false → runs → exec .warmReset s = .next (shot (entered .powerBad))) ∧
    (s.pins.supok = false → ¬ runs → exec .warmReset s = .next (released .powerBad .stopped none)))

/-- R13, R35, R105, R144, R163: power-bad return keeps the Scheduler's state, the failure count, the last fault code and
the decimation counters, and starts the main domain again; no shot falls due by it. The three outputs are evaluated: the
capture rail comes on, and the module boots, by a warm-up demand or CAPTURE MODE ON, the heater by the first period's duty or
HEATER MODE ON, each unless protected; the session is OFF in its rest span and the recorder rail off; a selected on edge opens
the blanking window. (With a rest span of 0 a batch threshold of 0 would begin an automatic wake at once; no row carries one.) -/
def Obligations.PowerBadReturnKeepsTheSchedule : Prop :=
  ∀ s : State, s.time.domain = .powerBad → s.pins.supok = false → MainHeld s →
    ∃ t, exec .powerBadReturn s = .next t ∧ t.time = { s.time with domain := .run } ∧
      t.sched = s.sched ∧ t.ramp = s.ramp ∧ t.retention = s.retention ∧ t.store = s.store ∧
      t.queue.records = [] ∧ t.queue.failures = s.queue.failures ∧ t.queue.faultCode = s.queue.faultCode ∧
      t.settings = s.settings ∧ t.flags = s.flags ∧
      t.inputs = { s.inputs with supok := true } ∧ t.pins = { s.pins with supok := true } ∧
      t.session.restTimer = Timer.startSeconds s.settings.restSpan ∧
      t.rails.heaterPeriod = Timer.startSeconds s.settings.heaterPeriod ∧ t.rails.periodDuty = s.bandDuty ∧
      t.rails.moduleLatch = s.rails.moduleLatch ∧ t.rails.band = s.rails.band ∧ t.rails.cycleHold = false ∧
      t.rails.timeToNext = s.nextShotIn ∧
      t.rails.warmUp = warmUpFor s.settings.warmUp s.nextShotIn ∧
      t.meas.measurePeriod = Timer.startSeconds s.settings.measurePeriod ∧ t.meas.tier = s.meas.tier ∧
      t.meas.lastBattery = s.meas.lastBattery ∧
      (t.meas.requests.battery = true ∨ t.meas.converting = some .battery) ∧ t.meas.requests.temperature = true ∧
      (t.rails.capture = true ↔ s.rails.moduleLatch = false ∧ s.bandForbids = false ∧
        (s.settings.captureMode = .on ∨
          (s.settings.captureMode = .auto ∧ warmUpFor s.settings.warmUp s.nextShotIn = true))) ∧
      (t.rails.capture = true →
        t.queue.module = .booting ∧ t.queue.bootTimer = Timer.start s.settings.bootLimit) ∧
      (t.rails.capture = false → t.queue.module = .unpowered) ∧
      (t.rails.heater = true ↔ s.tierBansHeat = false ∧
        (s.settings.heaterMode = .on ∨ (s.settings.heaterMode = .auto ∧ 0 < s.bandDuty))) ∧
      (t.rails.recorder = true ↔ t.session.state ≠ .off) ∧
      (s.settings.restSpan ≠ 0 ∨ (∀ r, s.tierRow = some r → 1 ≤ r.batch) →
        t.session = ⟨.off, s.session.wakesToday, .idle, .idle, .idle, Timer.startSeconds s.settings.restSpan, false, 0⟩) ∧
      t.meas.sagLatch = false ∧
      t.meas.blanking = (if (t.rails.capture = true ∧ .captureOn ∈ s.settings.blankEdges) ∨
          (t.rails.recorder = true ∧ .recorderOn ∈ s.settings.blankEdges) ∨
          (t.rails.heater = true ∧ .heaterOn ∈ s.settings.blankEdges)
        then Timer.start s.settings.blankLength else .idle)

/-- R11, R188, R27, R108: in RESET a change of SUPOK, and in every state TRIG or SERVICE seen high, sets its input change
flag and alters nothing else. (TRIG and SERVICE seen low: InputsRaiseShotsAndWakes; SUPOK outside RESET:
SupplyEntriesHoldTheMainDomain, PowerBadReturnKeepsTheSchedule.) -/
def Obligations.InputChangesSetTheirFlags : Prop :=
  (∀ s : State, s.time.domain = .reset →
    exec .supokChangeInReset s = .next { s with
      pins := { s.pins with supok := !s.pins.supok }, inputs := { s.inputs with supok := true } }) ∧
  (∀ s : State, s.pins.trig = false →
    exec (.trigOrServiceHigh .trig) s = .next { s with
      pins := { s.pins with trig := true }, inputs := { s.inputs with trig := true } }) ∧
  (∀ s : State, s.pins.service = false →
    exec (.trigOrServiceHigh .service) s = .next { s with
      pins := { s.pins with service := true }, inputs := { s.inputs with service := true } })


/-! ### Inputs -/

/-- R27, R28, R35, R108, R109, R188: TRIG or SERVICE seen low, a change, sets its input change flag. With TRIGGER ENABLE
on, RUNNING, events allowed in the current window and the refractory timer over, outside RESET, TRIG raises an event shot,
which is handled as a due shot is, and starts the refractory timer. In RUN and OFF, with SERVICE ENABLE on and the supply
good, SERVICE begins a service wake, which cancels the rest span; otherwise nothing else changes. -/
def Obligations.InputsRaiseShotsAndWakes : Prop :=
  (∀ s : State, s.pins.trig = true →
    let c := { s with pins := { s.pins with trig := false }, inputs := { s.inputs with trig := true } }
    let raises := s.settings.triggerEnable = true ∧ s.sched.state = .running ∧
      (∃ w, s.currentWindow = some w ∧ w.events = true) ∧ s.sched.refractory = .idle ∧ s.time.domain ≠ .reset
    let h := c.takeDueShot .event c.suspended
    let x := { h with sched := { h.sched with refractory := Timer.startSeconds s.settings.refractory } }
    let presents := x.sched.slot.isSome ≠ s.sched.slot.isSome ∨ x.queue.records.length ≠ s.queue.records.length
    (¬ raises → exec .trigActive s = .next c) ∧
    (raises → s.time.domain = .powerBad → exec .trigActive s = .next x) ∧
    (raises → s.time.domain = .run → presents → exec .trigActive s = .next (State.settle .protection s x)) ∧
    (raises → s.time.domain = .run → ¬ presents →
      exec .trigActive s = .next (State.conclude .protection s x))) ∧
  (∀ s : State, s.pins.service = true →
    let c := { s with pins := { s.pins with service := false }, inputs := { s.inputs with service := true } }
    let wakes := s.time.domain = .run ∧ s.session.state = .off ∧ s.settings.serviceEnable = true ∧
      s.pins.supok = true
    (¬ wakes → exec .serviceActive s = .next c) ∧
    (wakes → exec .serviceActive s = .next (State.concludeLoads s { c with
      counters := s.counters.put .serviceWakes (satInc s.counters.serviceWakes)
      session := { s.session with
        state := .waking, restTimer := .idle, readyTimer := Timer.startSeconds s.settings.readyTimeout } })))

/-- R71: a STROBE rise in RUN stamps the oldest ORDERED record without a strobe stamp, or is counted. -/
def Obligations.StrobeStampsTheOldestUnstamped : Prop :=
  ∀ s : State, s.time.domain = .run →
    (∀ (pre post : List ShotRecord) (r : ShotRecord),
      s.queue.records = pre ++ r :: post → r.state = .ordered → r.strobe = none →
      (∀ q ∈ pre, ¬ (q.state = .ordered ∧ q.strobe = none)) →
      exec .strobeRise s = .next { s with queue := { s.queue with
        records := pre ++ { r with strobe := some ⟨s.time.calendar, s.time.phase⟩ } :: post } }) ∧
    ((∀ q ∈ s.queue.records, ¬ (q.state = .ordered ∧ q.strobe = none)) →
      exec .strobeRise s = .next { s with
        counters := s.counters.put .strayStrobe (satInc s.counters.strayStrobe) })

/-- R156, R157: the comparator trips below SAG THRESHOLD and releases at 100 mV above it; a fall in RUN with SAG ENABLE
on and the blanking window closed sets the sag latch and the sticky flag, counts, asks for BATTERY and turns the heater
off. -/
def Obligations.ComparatorTripsAndReleases : Prop :=
  ∀ (c : Instr) (v : Nat) (s : State), (c = .sagTrip v ∨ c = .comparatorLevelChange v) → s.time.domain = .run →
    let level := if v < s.settings.sagThreshold then true
      else if s.settings.sagThreshold + 100 ≤ v then false else s.meas.tripped
    let x := { s with meas := { s.meas with tripped := level } }
    let trips := s.meas.tripped = false ∧ level = true ∧ s.settings.sagEnable = true ∧ s.meas.blanking = .idle
    (¬ trips → exec c s = .next x) ∧
    (trips →
      exec c s = .next (State.concludeLoads s { x with
        counters := s.counters.put .sagTrips (satInc s.counters.sagTrips)
        flags := { s.flags with sag := true }
        meas := { x.meas with sagLatch := true, requests := { s.meas.requests with battery := true } } }).arbitrate ∧
      ∃ t, exec c s = .next t ∧ t.meas.sagLatch = true ∧ t.rails.heater = false ∧
        (t.meas.requests.battery = true ∨ t.meas.converting = some .battery))

/-! ### The Shot Queue -/

/-- R65, R24, R67: HELLO makes a BOOTING module READY, cancels the boot timer and issues a pending shot, or skips it when
the slots do not suffice; in READY it is a restart, which loses every record and the relay and is a module failure. That
the restart has the capture demand evaluated in the same event, by which the rail can go off, is the model's reading (log
32, DEDUCED). -/
def Obligations.HelloByModuleState : Prop :=
  ∀ s x : State, Noticed helloPacket s x →
    let up := { x with queue := { x.queue with module := .ready, bootTimer := .idle } }
    let n := min 15 (x.queue.failures + 1)
    let restarted := { x with
      queue := { x.queue with records := [], deadline := .idle, deliveryTimer := .idle, relay := .idle,
                              relayLimit := .idle, failures := n }
      rails := { x.rails with moduleLatch := x.rails.moduleLatch || decide (x.settings.faultLimit ≤ n) }
      counters := x.counters.put .lost (satAdd x.counters.lost x.queue.records.length)
      flags := { x.flags with moduleRestart := true } }
    (x.queue.module = .booting → x.sched.slot = none → exec .hello s = .next (State.conclude .protection x up)) ∧
    (∀ p, x.queue.module = .booting → x.sched.slot = some p →
      let freed := { up with sched := { x.sched with slot := none } }
      let specs := x.specsOf p
      exec .hello s = .next (State.settle .protection x
        (if specs.length ≤ x.settings.capacity - x.queue.records.length then freed.issue specs
         else { freed with
           counters := x.counters.put .skippedBufferFull (satInc x.counters.skippedBufferFull) }))) ∧
    (x.queue.module = .ready →
      exec .hello s = .next
        (if x.queue.records = [] ∧ x.queue.relay = .idle then State.conclude .protection x restarted
         else State.settle .protection x restarted))

/-- R64, R66, R67, R131: a FAULT and the expiry of the boot limit are module failures, counted and latched at FAULT
LIMIT, and a cycle of the capture rail: the hold is set, and the rail is off when the event ends, by which the queue is
lost (CaptureEdgesReachTheQueue). -/
def Obligations.ModuleFailureCyclesTheRail : Prop :=
  let failing (x : State) : State :=
    let n := min 15 (x.queue.failures + 1)
    { x with
      queue := { x.queue with failures := n }
      rails := { x.rails with
        moduleLatch := x.rails.moduleLatch || decide (x.settings.faultLimit ≤ n), cycleHold := true } }
  (∀ (code : Byte) (s x : State), Noticed (faultPacket code) s x → x.queue.module ≠ .unpowered →
    exec (.fault code) s = .next (State.conclude .module x
      (failing { x with queue := { x.queue with faultCode := some code } }))) ∧
  (∀ s : State, s.time.domain = .run → s.queue.module = .booting → s.queue.bootTimer.due = true →
    exec .bootTimerExpiry s = .next (State.conclude .module s
      (failing { s with queue := { s.queue with bootTimer := .idle } }))) ∧
  (∀ before x : State,
    let t := State.conclude .module before (failing x)
    t.rails.capture = false ∧ t.rails.cycleHold = true ∧
      (x.rails.capture = true → t.queue.records = [] ∧ t.queue.module = .unpowered ∧ t.sched.slot = none))

/-- R72, R73: the watched record's deadline drops it, counts it lost and a module failure, and the watch passes to the
next ORDERED record. -/
def Obligations.DeadlineExpiryDropsTheWatched : Prop :=
  ∀ (s : State) (r : ShotRecord), s.time.domain = .run → s.queue.deadline.due = true →
    s.queue.oldest .ordered = some r →
    let left := s.queue.records.filter (fun q => decide (q.tag ≠ r.tag))
    let n := min 15 (s.queue.failures + 1)
    exec .exposureDeadlineExpiry s = .next (State.settle .protection s { s with
      queue := { s.queue with
        records := left
        failures := n
        deadline := match left.find? (fun q => decide (q.state = .ordered)) with
          | some q => Timer.start ((q.exposure.shutter + 999) / 1000 + s.settings.exposureAllowance)
          | none => .idle }
      rails := { s.rails with moduleLatch := s.rails.moduleLatch || decide (s.settings.faultLimit ≤ n) }
      slink := { s.slink with tx := s.slink.tx ++ [dropPacket r.tag] }
      counters := s.counters.put .lost (satInc s.counters.lost) })

/-- R74, R88, R92, R95, R96: a FRAME that matches an ORDERED record brings its facts, lets a CENTER update the ramp, and
the verdict keeps the record HELD or drops it; the failure count becomes 0 and the watch passes on. Before the end of the
event nothing else changes. -/
def Obligations.FrameIsJudged : Prop :=
  ∀ (tag : Byte) (shutter : Word32) (gain mean hi lo : Byte) (s x : State) (r : ShotRecord),
    Noticed (framePacket tag shutter gain mean hi lo) s x → x.queue.module = .ready →
    x.queue.withTag tag = some r → r.state = .ordered →
    let f : Facts := ⟨mean, hi, lo⟩
    let ramped := if r.role = .center then x.rampUpdate r f else x
    ∃ y, exec (.frame tag shutter gain mean hi lo) s = .next (State.settle .protection x y) ∧
      y.queue.failures = 0 ∧ y.ramp = ramped.ramp ∧
      y.retention.decimation = x.decimationAfter r.role mean ∧
      (x.verdictKeeps r.role mean = true →
        y.queue.records = x.queue.records.map (fun q =>
          if q.tag = tag then { q with facts := some f, state := .held, heldSince := some x.time.calendar } else q) ∧
        y.counters = ramped.counters.put .kept (satInc ramped.counters.kept) ∧ y.slink = x.slink ∧
        y.retention.lastKeptCenter = (if r.role = .center then some mean else x.retention.lastKeptCenter)) ∧
      (x.verdictKeeps r.role mean = false →
        y.queue.records = x.queue.records.filter (fun q => decide (q.tag ≠ tag)) ∧
        y.counters = ramped.counters.put .ruleDropped (satInc ramped.counters.ruleDropped) ∧
        y.slink = { x.slink with tx := x.slink.tx ++ [dropPacket tag] } ∧
        y.retention.lastKeptCenter = x.retention.lastKeptCenter) ∧
      ((x.queue.oldest .ordered).map (·.tag) = some tag →
        y.queue.deadline = match y.queue.records.find? (fun q => decide (q.state = .ordered)) with
          | some q => Timer.start ((q.exposure.shutter + 999) / 1000 + x.settings.exposureAllowance)
          | none => .idle) ∧
      ((x.queue.oldest .ordered).map (·.tag) ≠ some tag → y.queue.deadline = x.queue.deadline) ∧
      y.queue = { x.queue with records := y.queue.records, failures := 0, deadline := y.queue.deadline } ∧
      y.queue.module = .ready ∧ y.sched = x.sched ∧ y.session = x.session ∧ y.store = x.store ∧ y.meas = x.meas ∧
      y.plink = x.plink ∧ y.flags = x.flags ∧ y.settings = x.settings ∧ y.rails = x.rails ∧ y.time = x.time ∧
      y.inputs = x.inputs ∧ y.pins = x.pins ∧ y.pending = x.pending

/-- R69, R75, R78, R79: notices that no module state or record can take are counted and discarded; a FRAME without a
record is answered by DROP. -/
def Obligations.StrayNoticesAreCounted : Prop :=
  (∀ (c : Instr) (p : Packet) (s x : State), packetOf c = some (.s, p) → Noticed p s x →
    (x.queue.module = .unpowered ∨
      x.queue.module = .booting ∧ c ≠ .hello ∧ ∀ code, c ≠ .fault code) →
    exec c s = .next { x with counters := x.counters.put .strayNotice (satInc x.counters.strayNotice) }) ∧
  (∀ (tag : Byte) (sh : Word32) (g m hi lo : Byte) (s x : State),
    Noticed (framePacket tag sh g m hi lo) s x → x.queue.module = .ready →
    (x.queue.withTag tag = none →
      exec (.frame tag sh g m hi lo) s = .next { x with
        counters := x.counters.put .strayFrame (satInc x.counters.strayFrame)
        slink := { x.slink with tx := x.slink.tx ++ [dropPacket tag] } }) ∧
    (∀ r, x.queue.withTag tag = some r → r.state ≠ .ordered →
      exec (.frame tag sh g m hi lo) s = .next { x with
        counters := x.counters.put .strayFrame (satInc x.counters.strayFrame) })) ∧
  (∀ (tag : Byte) (s x : State), Noticed (deliveredPacket tag) s x → x.queue.module = .ready →
    (x.queue.withTag tag = none ∨ ∃ r, x.queue.withTag tag = some r ∧ r.state = .ordered) →
    exec (.delivered tag) s = .next { x with
      counters := x.counters.put .strayDelivery (satInc x.counters.strayDelivery) }) ∧
  (∀ (tag : Byte) (s x : State), Noticed (undeliveredPacket tag) s x → x.queue.module = .ready →
    (x.queue.withTag tag = none → exec (.undelivered tag) s = .next { x with
      counters := x.counters.put .strayDelivery (satInc x.counters.strayDelivery) }) ∧
    (∀ r, x.queue.withTag tag = some r → r.state ≠ .releasing → exec (.undelivered tag) s = .next x))

/-- R78, R79: DELIVERED removes a HELD, OFFERED or RELEASING record, counted delivered. UNDELIVERED for the RELEASING
record and the expiry of the delivery timer are a delivery failure: the first returns the record to HELD, the second drops
it, counted lost. -/
def Obligations.DeliveryEndsOrFails : Prop :=
  let failed (r : ShotRecord) (x : State) : State :=
    if r.failures = 0 then
      { x with queue := { x.queue with
        records := x.queue.records.map (fun q => if q.tag = r.tag then { q with state := .held, failures := 1 } else q)
        deliveryTimer := .idle } }
    else
      { x with
        queue := { x.queue with
          records := x.queue.records.filter (fun q => decide (q.tag ≠ r.tag)), deliveryTimer := .idle }
        slink := { x.slink with tx := x.slink.tx ++ [dropPacket r.tag] }
        counters := x.counters.put .lost (satInc x.counters.lost) }
  (∀ (tag : Byte) (s x : State) (r : ShotRecord), Noticed (deliveredPacket tag) s x → x.queue.module = .ready →
    x.queue.withTag tag = some r → r.state ≠ .ordered →
    exec (.delivered tag) s = .next (State.settle .protection x { x with
      queue := { x.queue with
        records := x.queue.records.filter (fun q => decide (q.tag ≠ tag))
        deliveryTimer := if r.state = .releasing then .idle else x.queue.deliveryTimer }
      counters := x.counters.put .delivered (satInc x.counters.delivered) })) ∧
  (∀ (tag : Byte) (s x : State) (r : ShotRecord), Noticed (undeliveredPacket tag) s x → x.queue.module = .ready →
    x.queue.withTag tag = some r → r.state = .releasing →
    exec (.undelivered tag) s = .next (State.settle .protection x (failed r x))) ∧
  (∀ (s : State) (r : ShotRecord), s.time.domain = .run → s.queue.deliveryTimer.due = true →
    s.queue.oldest .releasing = some r →
    exec .deliveryTimerExpiry s = .next (State.settle .protection s (failed r s)))

/-- R81, R83: a module's RELAY is passed on in session, or counted and discarded, and ends a relay in progress, as the
reply limit does. -/
def Obligations.ModuleRelayIsPassedOn : Prop :=
  let ended (x : State) : State := { x with queue := { x.queue with relay := .idle, relayLimit := .idle } }
  (∀ (payload : List Byte) (s x : State), Noticed (relayPacket payload) s x → x.queue.module = .ready →
    let passed := if x.inSession = true
      then { x with plink := { x.plink with tx := x.plink.tx ++ [relayPacket payload] } }
      else { x with counters := x.counters.put .strayNotice (satInc x.counters.strayNotice) }
    (x.queue.relay = .idle → exec (.moduleRelay payload) s = .next passed) ∧
    (x.queue.relay = .inProgress →
      exec (.moduleRelay payload) s = .next (State.settle .protection x (ended passed)))) ∧
  (∀ s : State, s.time.domain = .run → s.queue.relay = .inProgress → s.queue.relayLimit.due = true →
    exec .relayReplyLimitExpiry s = .next (State.settle .protection s (ended s)))


/-! ### Sessions -/

/-- R110, R118, R112, R189, R188: READY in WAKING begins AWAKE; in AWAKE or CLOSING it abandons the transaction and
returns an OFFERED record to HELD. It is answered by the five packets of a STATUS report, which shows the offer the event
makes, if any, and stands ahead of its OFFER; the input change flags it carries are cleared. -/
def Obligations.ReadyReportsThenOffers : Prop :=
  ∀ s x w : State, Handed .p readyPacket s x → x.roomP 6 = true →
    (x.session.state = .waking ∧ w = { x with session := { x.session with
        state := .awake, readyTimer := .idle, awakeTimer := Timer.startSeconds x.settings.awakeLimit } }) ∨
      ((x.session.state = .awake ∨ x.session.state = .closing) ∧ w = { x with
        store := x.store.abandon
        queue := { x.queue with records := x.queue.records.map (fun q : ShotRecord =>
          if q.state = .offered then { q with state := .held } else q) }
        session := { x.session with
          offerTimer := if x.queue.has .offered then .idle else x.session.offerTimer } }) →
    (∀ r, w.session.state = .awake → w.queue.has .offered = false → w.queue.has .releasing = false →
      w.queue.oldest .held = some r →
      let b : State := { w with
        queue := { w.queue with records := w.queue.records.map (fun q : ShotRecord =>
          if q.tag = r.tag then { q with state := .offered } else q) }
        session := { w.session with offerTimer := Timer.start x.settings.offerWindow, offerSent := false } }
      exec .ready s = .next { b with
        plink := { x.plink with tx := x.plink.tx ++
          [b.statusPart0, b.statusPart1, b.statusPart2, b.statusPart3, b.statusPart4] ++ [offerPacket r] }
        inputs := ⟨false, false, false⟩ }) ∧
    ((w.session.state ≠ .awake ∨ w.queue.has .offered = true ∨ w.queue.has .releasing = true ∨
        w.queue.oldest .held = none) →
      exec .ready s = .next { w with
        plink := { x.plink with tx := x.plink.tx ++
          [w.statusPart0, w.statusPart1, w.statusPart2, w.statusPart3, w.statusPart4] }
        inputs := ⟨false, false, false⟩ })

/-- R117, R119, R120: SLEEP in AWAKE returns an OFFERED record to HELD and ends the session, or waits in CLOSING for a
RELEASING record; in CLOSING it does nothing; a CLOSING session ends with the event that leaves no record RELEASING, as the end
of every event sees to (SessionEndEffects says what a session end does, and log 34 what it does before a wake). -/
def Obligations.SleepEndsTheSession : Prop :=
  (∀ s x : State, Handed .p sleepPacket s x →
    let back : State := { x with
      queue := { x.queue with records := x.queue.records.map (fun q : ShotRecord =>
        if q.state = .offered then { q with state := .held } else q) }
      session := { x.session with offerTimer := .idle } }
    (x.session.state = .awake → x.queue.has .releasing = false →
      exec .sleep s = .next (State.conclude .protection x back.endSession)) ∧
    (x.session.state = .awake → x.queue.has .releasing = true →
      exec .sleep s = .next { back with session := { back.session with state := .closing } }) ∧
    (x.session.state = .closing → exec .sleep s = .next x) ∧
    (x.session.state = .off ∨ x.session.state = .waking →
      exec .sleep s = .next { x with
        counters := x.counters.put .outOfSession (satInc x.counters.outOfSession) })) ∧
  (∀ s : State, s.session.state = .closing →
    (s.queue.has .releasing = false → s.sessionAfter = s.endSession) ∧
    (s.queue.has .releasing = true → s.sessionAfter = s)) ∧
  (∀ (why : SkipReason) (before s t : State), t = State.conclude why before s ∨ t = State.settle why before s →
    s.session.state = .closing →
    let offEdge := s.rails.capture = true ∧ t.rails.capture = false
    let left : State := { s with queue := { s.queue with records := if offEdge then [] else s.queue.records } }
    (¬ offEdge ∧ s.queue.has .releasing = true →
      t.session = s.session ∧ t.plink = s.plink ∧ t.store = s.store ∧ t.counters.outOfSession = s.counters.outOfSession) ∧
    (offEdge ∨ s.queue.has .releasing = false →
      t.session = left.endSession.session ∧ t.plink = { s.plink with rx := [], tx := [] } ∧
      t.store = s.store.abandon ∧
      t.counters.outOfSession = satAdd s.counters.outOfSession s.plink.rx.length))

/-- R113 to R115, R76, R77: a CLAIM or WAIVE of the OFFERED record's tag, in AWAKE after its OFFER has been sent, is
answered OK with the tag, sends RELEASE or DROP and ends the offer; any other is answered STALE with the tag and changes
nothing else. -/
def Obligations.ClaimAndWaiveAnswerTheOffer : Prop :=
  ∀ (tag : Byte) (s x : State),
    let taken := x.session.state = .awake ∧ x.session.offerSent = true ∧
      ∃ r, x.queue.oldest .offered = some r ∧ r.tag = tag
    let ans (kind : Byte) (a : AnswerCode) : Port :=
      { x.plink with tx := x.plink.tx ++ [answerPacket kind a (some (tag.setWidth 32))] }
    let replied := { x.session with offerTimer := .idle, timeouts := 0 }
    (Served (claimPacket tag) 2 s x →
      (taken → exec (.claim tag) s = .next (State.settle .protection x { x with
        plink := ans 0x03 .ok
        slink := { x.slink with tx := x.slink.tx ++ [releasePacket tag] }
        session := replied
        queue := { x.queue with
          records := x.queue.records.map (fun q : ShotRecord => if q.tag = tag then { q with state := .releasing } else q)
          deliveryTimer := Timer.startSeconds x.settings.deliveryTimeout } })) ∧
      (¬ taken → exec (.claim tag) s = .next { x with plink := ans 0x03 .stale })) ∧
    (Served (waivePacket tag) 2 s x →
      (taken → exec (.waive tag) s = .next (State.settle .protection x { x with
        plink := ans 0x04 .ok
        slink := { x.slink with tx := x.slink.tx ++ [dropPacket tag] }
        session := replied
        queue := { x.queue with records := x.queue.records.filter (fun q : ShotRecord => decide (q.tag ≠ tag)) }
        counters := x.counters.put .waived (satInc x.counters.waived) })) ∧
      (¬ taken → exec (.waive tag) s = .next { x with plink := ans 0x04 .stale }))

/-- R111, R116, R121, R123: no READY in time ends the session as a no-show; an offer timeout returns the record to HELD,
the second in a row forces sleep; so does the awake limit; the rest span's end lets an automatic wake begin. That the record
offered after a first timeout is the oldest HELD, be it another than the one returned, is the model's reading (log 33,
DEDUCED). -/
def Obligations.SessionTimeouts : Prop :=
  let asleep (y : State) : State := State.endSession { y with
    queue := { y.queue with
      records := y.queue.records.map (fun q : ShotRecord =>
        if q.state = .offered ∨ q.state = .releasing then { q with state := .held } else q)
      deliveryTimer := .idle }
    counters := y.counters.put .forcedSleeps (satInc y.counters.forcedSleeps)
    flags := { y.flags with forcedSleep := true } }
  ∀ s : State, s.time.domain = .run →
    (s.session.readyTimer.due = true → s.session.state = .waking →
      exec .readyTimerExpiry s = .next (State.conclude .protection s (State.endSession { s with
        counters := s.counters.put .noShows (satInc s.counters.noShows)
        flags := { s.flags with noShow := true } }))) ∧
    (s.session.awakeTimer.due = true → (s.session.state = .awake ∨ s.session.state = .closing) →
      exec .awakeTimerExpiry s = .next (State.conclude .protection s (asleep s))) ∧
    (s.session.offerTimer.due = true → s.session.state = .awake → s.queue.has .offered = true →
      let back : State := { s with
        queue := { s.queue with records := s.queue.records.map (fun q : ShotRecord =>
          if q.state = .offered then { q with state := .held } else q) }
        session := { s.session with timeouts := s.session.timeouts + 1, offerTimer := .idle }
        flags := { s.flags with offerTimeout := true } }
      (s.session.timeouts = 0 → exec .offerTimeout s = .next (State.settle .protection s back)) ∧
      (1 ≤ s.session.timeouts → exec .offerTimeout s = .next (State.settle .protection s (asleep back)))) ∧
    (s.session.restTimer.due = true → s.session.state = .off →
      exec .restTimerExpiry s = .next (State.concludeLoads s
        ({ s with session := { s.session with restTimer := .idle } } : State).evaluateWake))

/-- R117: outside a session a request is discarded and counted, and a READY in OFF too; nothing answers it. -/
def Obligations.RequestsOutOfSessionAreDiscarded : Prop :=
  (∀ (c : Instr) (p : Packet) (s x : State), packetOf c = some (.p, p) → c ≠ .ready → c ≠ .sleep →
    Handed .p p s x → (x.session.state = .off ∨ x.session.state = .waking) →
    exec c s = .next { x with counters := x.counters.put .outOfSession (satInc x.counters.outOfSession) }) ∧
  (∀ s x : State, Handed .p readyPacket s x → x.session.state = .off →
    exec .ready s = .next { x with counters := x.counters.put .outOfSession (satInc x.counters.outOfSession) })

/-- R193, R192, R180: a packet waits at the head of its receive queue while its condition does not hold: a request for
its places on the P-link, a notice for room on the S-link; a packet that does not stand at the head joins the queue, and
is counted an overrun when the queue is full; outside RUN nothing is received. That the command of a request or notice
is the hand-over of its packet when that packet is at the head, and its arrival otherwise, is the model's choice (log 4,
DESIGN CHOICE). A session is open in AWAKE and CLOSING, the P-link has 8
places, and the S-link room with at most 3 packets in its line. -/
def Obligations.PacketsWaitForTheirCondition : Prop :=
  (∀ (c : Instr) (l : Link) (p : Packet) (s : State), packetOf c = some (l, p) →
    let places := match c with
      | .query => 6
      | .claim _ => 2
      | .waive _ => 2
      | _ => 1
    let waits :=
      (l = .s ∧ 3 < s.slink.tx.length) ∨
      (c = .ready ∧ s.session.state ≠ .off ∧ 8 < s.plink.tx.length + 6) ∨
      (l = .p ∧ c ≠ .ready ∧ c ≠ .sleep ∧ s.inSession = true ∧ 8 < s.plink.tx.length + places)
    let queued := s.setPort l { s.port l with rx := (s.port l).rx ++ [p] }
    (s.time.domain ≠ .run → exec c s = .next s) ∧
    (∀ rest, s.time.domain = .run → (s.port l).rx = p :: rest → waits → exec c s = .next s) ∧
    (s.time.domain = .run → (s.port l).rx = [] → waits → exec c s = .next queued) ∧
    (∀ q rest, s.time.domain = .run → (s.port l).rx = q :: rest → q ≠ p → (s.port l).rx.length < 4 →
      exec c s = .next queued) ∧
    (∀ q rest, s.time.domain = .run → (s.port l).rx = q :: rest → q ≠ p → (s.port l).rx.length = 4 →
      exec c s = .next (s.count (overrunCounter l)))) ∧
  (∀ s : State,
    (s.inSession = true ↔ s.session.state = .awake ∨ s.session.state = .closing) ∧
    (∀ n, s.roomP n = true ↔ s.plink.tx.length + n ≤ 8) ∧ (s.roomS = true ↔ s.slink.tx.length ≤ 3) ∧
    s.port .p = s.plink ∧ s.port .s = s.slink ∧
    (∀ x, s.setPort .p x = { s with plink := x } ∧ s.setPort .s x = { s with slink := x })) ∧
  overrunCounter .p = .pOverruns ∧ overrunCounter .s = .sOverruns

/-! ### Settings, counters and reports -/

/-- R182: a SET is answered by the first stage that fails: an unknown item, a value out of range, or a refusal of the
item's owner (CAPACITY below the number of records, RAMP POSITION while RUNNING); otherwise OK, and the value is stored in
the setting of its name. The items with an effect of their own have statements of their own. -/
def Obligations.SetAnswersByStage : Prop :=
  (∀ (c : Instr) (code : Byte) (v : Word32) (s x : State), setRequest c = some (code, v) →
    Served (setPacket code v) 1 s x →
    (27 ≤ code.toNat → exec c s = .next (answered 0x10 .badItem x)) ∧
    (∀ i, Item.ofCode code = some i →
      (i.inRange v = false → exec c s = .next (answered 0x10 .badValue x)) ∧
      (i = .capacity → i.inRange v = true → v.toNat < x.queue.records.length →
        exec c s = .next (answered 0x10 .busy x)) ∧
      (i = .rampPosition → i.inRange v = true → x.sched.state = .running →
        exec c s = .next (answered 0x10 .busy x)) ∧
      (i ∉ [.clock, .dayOffset, .capacity, .captureMode, .heaterMode, .sagEnable, .rampPosition] →
        i.inRange v = true →
        exec c s = .next { answered 0x10 .ok x with settings := x.settings.put i v }))) ∧
  ∀ (x : Settings) (v : Word32),
    x.put .warmUp v = { x with warmUp := v.toNat } ∧ x.put .keepWarm v = { x with keepWarm := v.toNat } ∧
    x.put .bootLimit v = { x with bootLimit := v.toNat } ∧
    x.put .exposureAllowance v = { x with exposureAllowance := v.toNat } ∧
    x.put .faultLimit v = { x with faultLimit := v.toNat } ∧
    x.put .deliveryTimeout v = { x with deliveryTimeout := v.toNat } ∧
    x.put .offerWindow v = { x with offerWindow := v.toNat } ∧
    x.put .readyTimeout v = { x with readyTimeout := v.toNat } ∧
    x.put .awakeLimit v = { x with awakeLimit := v.toNat } ∧ x.put .restSpan v = { x with restSpan := v.toNat } ∧
    x.put .refractory v = { x with refractory := v.toNat } ∧
    x.put .triggerEnable v = { x with triggerEnable := decide (v = 1) } ∧
    x.put .serviceEnable v = { x with serviceEnable := decide (v = 1) } ∧
    x.put .blankLength v = { x with blankLength := v.toNat } ∧
    x.put .blankEdges v = { x with blankEdges := ([(0, EdgeKind.captureOn), (1, .captureOff), (2, .recorderOn),
      (3, .recorderOff), (4, .heaterOn), (5, .heaterOff)].filter (fun e => v.getLsbD e.1)).map (·.2) } ∧
    x.put .sagThreshold v = { x with sagThreshold := v.toNat } ∧
    x.put .sagMode v = { x with sagMode := if v = 1 then .latched else .cycle } ∧
    x.put .measurePeriod v = { x with measurePeriod := v.toNat } ∧
    x.put .heaterPeriod v = { x with heaterPeriod := v.toNat } ∧ x.put .autorun v = { x with autorun := decide (v = 1) }

/-- 10, section 10.2: the range of each item. -/
def Obligations.SettingsRanges : Prop :=
  (∀ e ∈ ([(.capacity, 1, 8), (.warmUp, 0, 255), (.keepWarm, 0, 3600), (.bootLimit, 100, 25500),
      (.exposureAllowance, 10, 10000), (.faultLimit, 1, 15), (.deliveryTimeout, 1, 255), (.offerWindow, 10, 25500),
      (.readyTimeout, 1, 255), (.awakeLimit, 10, 65535), (.restSpan, 0, 65535), (.refractory, 1, 3600),
      (.triggerEnable, 0, 1), (.serviceEnable, 0, 1), (.captureMode, 0, 2), (.heaterMode, 0, 2),
      (.blankLength, 0, 4095), (.blankEdges, 0, 63), (.sagThreshold, 2000, 16000), (.sagEnable, 0, 1),
      (.sagMode, 0, 1), (.measurePeriod, 10, 3600), (.heaterPeriod, 1, 255), (.autorun, 0, 1),
      (.rampPosition, 0, 1008)] : List (Item × Nat × Nat)), ∀ v : Word32,
    e.1.inRange v = true ↔ e.2.1 ≤ v.toNat ∧ v.toNat ≤ e.2.2) ∧
  (∀ v : Word32, Item.inRange .clock v = true) ∧
  (∀ v : Word32, Item.inRange .dayOffset v = true ↔ -50400 ≤ v.toInt ∧ v.toInt ≤ 50400)

/-- R5, R6, R4, R21, R54: SET of CLOCK takes the value at phase 0 and SET of DAY OFFSET the offset; each is a clock-set
notice: a new day number clears wakes-today, and while RUNNING the window is selected anew with the ramp clamp, without a
shot. -/
def Obligations.ClockSetsReselectSilently : Prop :=
  ∀ (c : Instr) (code : Byte) (v : Word32) (s x : State), setRequest c = some (code, v) →
    Served (setPacket code v) 1 s x →
    (code = 0 ∨ code = 1 ∧ -50400 ≤ v.toInt ∧ v.toInt ≤ 50400) →
    let now : TimeBase := if code = 0 then { x.time with calendar := v, phase := 0 }
      else { x.time with dayOffset := v.toInt }
    let y : State := { answered 0x10 .ok x with
      time := now
      session := { x.session with
        wakesToday := if x.time.dayNumber = now.dayNumber then x.session.wakesToday else 0 } }
    exec c s = .next (State.concludeLoads x
      (if x.sched.state = .running then
        State.entryClamp { y with
          sched := { x.sched with window := windowAt x.store.window.active.rows now.secondOfDay } }
       else y))

/-- R61, R129, R131, R138, R157, R58: the items with an effect at once. CAPACITY and the modes evaluate the outputs;
CAPTURE MODE clears the cycle hold; SAG ENABLE on with the comparator tripped takes a trip; RAMP POSITION while STOPPED is
clamped to the ladder and advances the generation. The codes of the modes are 0 AUTO, 1 ON, 2 OFF (R195). -/
def Obligations.SettingsWithEffects : Prop :=
  (∀ (c : Instr) (code : Byte) (v : Word32) (s x : State), setRequest c = some (code, v) →
    Served (setPacket code v) 1 s x →
    let a := answered 0x10 .ok x
    (code = 2 → 1 ≤ v.toNat → v.toNat ≤ 8 → x.queue.records.length ≤ v.toNat →
      exec c s = .next (State.concludeLoads x { a with settings := { x.settings with capacity := v.toNat } })) ∧
    (∀ m, code = 16 → Mode.ofCode v.toNat = some m →
      exec c s = .next (State.conclude .protection x { a with
        settings := { x.settings with captureMode := m }, rails := { x.rails with cycleHold := false } })) ∧
    (∀ m, code = 17 → Mode.ofCode v.toNat = some m →
      exec c s = .next (State.concludeLoads x { a with settings := { x.settings with heaterMode := m } })) ∧
    (code = 21 → v.toNat = 0 → exec c s = .next { a with settings := { x.settings with sagEnable := false } }) ∧
    (code = 21 → v.toNat = 1 →
      let e : State := { a with settings := { x.settings with sagEnable := true } }
      (x.meas.tripped = true ∧ x.meas.blanking = .idle →
        exec c s = .next (State.concludeLoads x { e with
          counters := x.counters.put .sagTrips (satInc x.counters.sagTrips)
          flags := { x.flags with sag := true }
          meas := { x.meas with sagLatch := true, requests := { x.meas.requests with battery := true } } }).arbitrate) ∧
      (¬ (x.meas.tripped = true ∧ x.meas.blanking = .idle) → exec c s = .next e)) ∧
    (code = 26 → v.toNat ≤ 1008 → x.sched.state = .stopped →
      exec c s = .next { a with ramp := { x.ramp with
        position := min v.toNat ((x.store.ladder.active.rows.length - 1) * 16)
        generation := x.ramp.generation + 1 } })) ∧
  [0, 1, 2].map Mode.ofCode = [some .auto, some .on, some .off] ∧ (∀ n : Nat, 3 ≤ n → Mode.ofCode n = none)

/-- R183: a GET is answered with the item's value at that moment, or BAD_ITEM, and changes nothing else; the value of
CLOCK is the calendar second, of RAMP POSITION the ramp position, of every other item the value last set or the default.
The item that each code names, in the order of section 10.2. -/
def Obligations.GetAnswersPresentValue : Prop :=
  (∀ (code : Byte) (s x : State), Served (getPacket code) 1 s x →
    (∀ i, Item.ofCode code = some i →
      exec (.get code) s = .next { x with
        plink := { x.plink with tx := x.plink.tx ++ [answerPacket 0x11 .ok (some (x.itemValue i))] } }) ∧
    (27 ≤ code.toNat → exec (.get code) s = .next (answered 0x11 .badItem x))) ∧
  (∀ n : Byte, n.toNat < 27 → ∃ i, Item.ofCode n = some i) ∧ (∀ n : Byte, 27 ≤ n.toNat → Item.ofCode n = none) ∧
  ([0, 1, 2, 3, 4, 5, 6, 7, 8, 9, 10, 11, 12, 13, 14, 15, 16, 17, 18, 19, 20, 21, 22, 23, 24, 25, 26] : List Byte).map
    Item.ofCode = [some .clock, some .dayOffset, some .capacity, some .warmUp, some .keepWarm, some .bootLimit,
      some .exposureAllowance, some .faultLimit, some .deliveryTimeout, some .offerWindow, some .readyTimeout,
      some .awakeLimit, some .restSpan, some .refractory, some .triggerEnable, some .serviceEnable, some .captureMode,
      some .heaterMode, some .blankLength, some .blankEdges, some .sagThreshold, some .sagEnable, some .sagMode,
      some .measurePeriod, some .heaterPeriod, some .autorun, some .rampPosition] ∧
  (∀ s : State, s.itemValue .clock = s.time.calendar ∧ s.itemValue .rampPosition = BitVec.ofNat 32 s.ramp.position ∧
    s.itemValue .dayOffset = BitVec.ofInt 32 s.time.dayOffset) ∧
  (∀ (i : Item) (v : Word32) (s : State), i ∉ [.clock, .dayOffset, .rampPosition] → i.inRange v = true →
    ({ s with settings := s.settings.put i v } : State).itemValue i = v) ∧
  Item.all.map State.reset.itemValue =
    [0, 0, 4, 3, 30, 2000, 500, 3, 30, 2000, 20, 600, 60, 10, 0, 1, 0, 0, 50, 21, 6000, 1, 0, 300, 20, 0, 0]

/-- R186, R189, R188, R190, R195, R196: QUERY is answered OK and by the five packets of a STATUS report in part order,
each of at most 48 payload bytes, its first byte the part number; the input change flags are cleared. The fields of the
five parts, most significant byte first, with the optional fields that their presence bytes mark; and the fields of
ANSWER, OFFER, EXPOSE, DROP and RELEASE. Each counter has its own place, and saturates at 65,535. -/
def Obligations.QuerySendsFiveParts : Prop :=
  (∀ s x : State, Served queryPacket 6 s x →
    let a := answered 0x17 .ok x
    exec .query s = .next { a with
      plink := { a.plink with tx := a.plink.tx ++
        [a.statusPart0, a.statusPart1, a.statusPart2, a.statusPart3, a.statusPart4] }
      inputs := ⟨false, false, false⟩ }) ∧
  (∀ s : State,
    [s.statusPart0, s.statusPart1, s.statusPart2, s.statusPart3, s.statusPart4].map
      (fun p => (p.kind, p.payload.head?)) =
        [(0x20, some 0), (0x20, some 1), (0x20, some 2), (0x20, some 3), (0x20, some 4)] ∧
    s.statusPart3.payload.length = 29 ∧ s.statusPart4.payload.length = 27 ∧
    s.statusPart0.payload.length ≤ 48 ∧ s.statusPart1.payload.length ≤ 48 ∧ s.statusPart2.payload.length ≤ 48) ∧
  let be2 (n : Nat) : List Byte := [BitVec.ofNat 8 (n / 256), BitVec.ofNat 8 n]
  let be3 (n : Nat) : List Byte := BitVec.ofNat 8 (n / 65536) :: be2 n
  let be4 (n : Nat) : List Byte := BitVec.ofNat 8 (n / 16777216) :: be3 n
  let low (n : Nat) : Byte := BitVec.ofNat 8 n
  let bit (b : Bool) (k : Nat) : Byte := if b then BitVec.ofNat 8 (2 ^ k) else 0
  let role (r : Role) : Byte := match r with
    | .center => 0
    | .member => 1
    | .event => 2
    | .manual => 3
  let table (x : Table) : Nat := match x with
    | .window => 0
    | .program => 1
    | .ladder => 2
    | .correction => 3
    | .retention => 4
    | .tier => 5
    | .thermal => 6
  let stamp (x : Stamp) : List Byte := be4 x.second.toNat ++ be2 x.ms
  let mode (m : Mode) : Byte := match m with
    | .auto => 0
    | .on => 1
    | .off => 2
  (∀ s : State,
    s.statusPart0.payload =
      0 :: be4 s.time.calendar.toNat ++ be2 s.time.phase ++ be3 s.time.secondOfDay
      ++ [(match s.sched.state with | .stopped => 0 | .running => 1 : Byte)] ++ be3 s.sched.elapsed
      ++ be2 s.ramp.position ++ be2 s.ramp.generation.toNat ++ [BitVec.ofInt 8 s.ramp.lastCorrection]
      ++ [(match s.meas.tier with | .unset => 0 | .full => 1 | .normal => 2 | .lean => 3 | .critical => 4 : Byte)]
      ++ [bit s.meas.tripped 0, bit (decide (s.meas.blanking ≠ .idle)) 0,
          bit s.sched.window.isSome 0 + bit s.sched.slot.isSome 1 + bit s.meas.lastBattery.isSome 2
            + bit s.meas.lastTemperature.isSome 3 + bit s.meas.lastAux.isSome 4]
      ++ (match s.sched.window with | some i => [low i] | none => [])
      ++ (match s.sched.slot with
        | some x => (match x.kind with | .scheduled => 0 | .event => 1 | .manual => 2 : Byte) :: be4 x.fellDue.toNat
        | none => [])
      ++ (match s.meas.lastBattery with | some v => be2 v | none => [])
      ++ (match s.meas.lastTemperature with | some v => [BitVec.ofInt 8 (v / 256), BitVec.ofInt 8 v] | none => [])
      ++ (match s.meas.lastAux with | some v => be2 v | none => []) ∧
    s.statusPart1.payload =
      1 :: [RecState.ordered, .held, .offered, .releasing].map
        (fun st => low (s.queue.records.countP (fun r => decide (r.state = st))))
      ++ [(match s.queue.module with | .unpowered => 0 | .booting => 1 | .ready => 2 : Byte)]
      ++ [low s.queue.failures, (match s.queue.relay with | .idle => 0 | .inProgress => 1 : Byte)]
      ++ [(match s.session.state with | .off => 0 | .waking => 1 | .awake => 2 | .closing => 3 : Byte)]
      ++ be2 s.session.wakesToday.toNat
      ++ [bit s.rails.capture 0 + bit s.rails.recorder 1 + bit s.rails.heater 2,
          mode s.settings.captureMode, mode s.settings.heaterMode,
          bit s.rails.moduleLatch 0 + bit s.bandForbids 1 + bit (s.queue.has .ordered) 2 + bit s.meas.sagLatch 3
            + bit s.tierBansHeat 4,
          bit s.rails.cycleHold 0, bit s.rails.moduleLatch 0 + bit s.meas.sagLatch 1, bit s.rails.phaseOn 0,
          bit s.flags.sag 0 + bit s.flags.offerTimeout 1 + bit s.flags.forcedSleep 2 + bit s.flags.noShow 3
            + bit s.flags.moduleRestart 4 + bit s.flags.badPacket 5,
          bit s.inputs.trig 0 + bit s.inputs.service 1 + bit s.inputs.supok 2,
          bit s.queue.faultCode.isSome 0 + bit s.retention.lastKeptCenter.isSome 1 + bit s.rails.band.isSome 2]
      ++ (match s.queue.faultCode with | some v => [v] | none => [])
      ++ (match s.retention.lastKeptCenter with | some v => [v] | none => [])
      ++ (match s.rails.band with | some i => [low i, low s.bandDuty, bit (!s.bandForbids) 0] | none => []) ∧
    (let shown (valid : Bool) (rows : Nat) (check : Word16) : List Byte :=
        if valid then low rows :: be2 check.toNat else [0, 0, 0]
     let st := s.store
     s.statusPart2.payload =
        2 :: shown st.window.active.valid st.window.active.rows.length st.window.active.check
        ++ shown st.window.staged.valid st.window.staged.rows.length st.window.staged.check
        ++ shown st.program.active.valid st.program.active.rows.length st.program.active.check
        ++ shown st.program.staged.valid st.program.staged.rows.length st.program.staged.check
        ++ shown st.ladder.active.valid st.ladder.active.rows.length st.ladder.active.check
        ++ shown st.ladder.staged.valid st.ladder.staged.rows.length st.ladder.staged.check
        ++ shown st.correction.active.valid st.correction.active.rows.length st.correction.active.check
        ++ shown st.correction.staged.valid st.correction.staged.rows.length st.correction.staged.check
        ++ shown st.retention.active.valid st.retention.active.rows.length st.retention.active.check
        ++ shown st.retention.staged.valid st.retention.staged.rows.length st.retention.staged.check
        ++ shown st.tier.active.valid st.tier.active.rows.length st.tier.active.check
        ++ shown st.tier.staged.valid st.tier.staged.rows.length st.tier.staged.check
        ++ shown st.thermal.active.valid st.thermal.active.rows.length st.thermal.active.check
        ++ shown st.thermal.staged.valid st.thermal.staged.rows.length st.thermal.staged.check
        ++ [bit st.load.isSome 0 + bit st.commit.isSome 1]
        ++ (match st.load with | some tr => [low (table tr.table), low tr.received] | none => [])
        ++ (match st.commit with
          | some c => [low ((c.tables.map (fun x => 2 ^ table x)).sum),
              (match c.point with | .atOnce => 0 | .nextShot => 1 | .nextWindow => 2 : Byte)]
          | none => [])) ∧
    (let k := s.counters
     s.statusPart3.payload = 3 :: [k.skippedBufferFull, k.skippedLate, k.skippedModule, k.skippedSuspended,
        k.skippedProtected, k.skippedPower, k.skippedStopped, k.staleReport, k.lost, k.delivered, k.waived,
        k.strayFrame, k.strayStrobe, k.strayDelivery].flatMap (fun v => be2 v.toNat) ∧
     s.statusPart4.payload = 4 :: [k.strayNotice, k.kept, k.ruleDropped, k.serviceWakes, k.noShows, k.forcedSleeps,
        k.outOfSession, k.sagTrips, k.spoiledConversions, k.pBadPackets, k.sBadPackets, k.pOverruns,
        k.sOverruns].flatMap (fun v => be2 v.toNat))) ∧
  (∀ (kind : Byte) (v : Word32) (e : AnswerCode × Byte),
    e ∈ [(AnswerCode.ok, 0), (.busy, 1), (.notReady, 2), (.full, 3), (.protection, 4), (.badItem, 5), (.badValue, 6),
      (.badSequence, 7), (.checkFailed, 8), (.stale, 9)] →
    answerPacket kind e.1 none = ⟨0x22, [kind, e.2, 0]⟩ ∧
    answerPacket kind e.1 (some v) = ⟨0x22, [kind, e.2, 1] ++ be4 v.toNat⟩) ∧
  (∀ (r : ShotRecord) (f : Facts), r.facts = some f →
    offerPacket r = ⟨0x21, [low r.number.toNat] ++ be4 r.number.toNat ++ [role r.role,
        bit r.offset.isSome 0 + bit r.indices.isSome 1 + bit r.strobe.isSome 2]
      ++ (match r.offset with | some o => [BitVec.ofInt 8 o] | none => [])
      ++ (match r.indices with | some x => [low x.window, low x.program] | none => [])
      ++ stamp r.orderedAt
      ++ (match r.strobe with | some x => stamp x | none => [])
      ++ be4 r.exposure.shutter ++ [low r.exposure.gain, f.mean, f.clippedHigh, f.clippedLow]⟩) ∧
  (∀ (tag : Byte) (e : Exposure) (r : Role),
    exposePacket tag e r = ⟨0x40, [tag] ++ be4 e.shutter ++ [low e.gain, role r]⟩ ∧
    dropPacket tag = ⟨0x41, [tag]⟩ ∧ releasePacket tag = ⟨0x42, [tag]⟩) ∧
  (∀ v : Word16, (satInc v).toNat = min 65535 (v.toNat + 1) ∧ ∀ n, (satAdd v n).toNat = min 65535 (v.toNat + n)) ∧
  (∀ (s : State) (k : Counter), s.count k = { s with counters := s.counters.put k (satInc (s.counters.value k)) }) ∧
  (∀ (c : Counters) (v : Word16),
    c.put .skippedBufferFull v = { c with skippedBufferFull := v } ∧ c.put .skippedLate v = { c with skippedLate := v } ∧
    c.put .skippedModule v = { c with skippedModule := v } ∧
    c.put .skippedSuspended v = { c with skippedSuspended := v } ∧
    c.put .skippedProtected v = { c with skippedProtected := v } ∧ c.put .skippedPower v = { c with skippedPower := v } ∧
    c.put .skippedStopped v = { c with skippedStopped := v } ∧ c.put .staleReport v = { c with staleReport := v } ∧
    c.put .lost v = { c with lost := v } ∧ c.put .delivered v = { c with delivered := v } ∧
    c.put .waived v = { c with waived := v } ∧ c.put .strayFrame v = { c with strayFrame := v } ∧
    c.put .strayStrobe v = { c with strayStrobe := v } ∧ c.put .strayDelivery v = { c with strayDelivery := v } ∧
    c.put .strayNotice v = { c with strayNotice := v } ∧ c.put .kept v = { c with kept := v } ∧
    c.put .ruleDropped v = { c with ruleDropped := v } ∧ c.put .serviceWakes v = { c with serviceWakes := v } ∧
    c.put .noShows v = { c with noShows := v } ∧ c.put .forcedSleeps v = { c with forcedSleeps := v } ∧
    c.put .outOfSession v = { c with outOfSession := v } ∧ c.put .sagTrips v = { c with sagTrips := v } ∧
    c.put .spoiledConversions v = { c with spoiledConversions := v } ∧
    c.put .pBadPackets v = { c with pBadPackets := v } ∧ c.put .sBadPackets v = { c with sBadPackets := v } ∧
    c.put .pOverruns v = { c with pOverruns := v } ∧ c.put .sOverruns v = { c with sOverruns := v } ∧
    (∀ k j : Counter, (c.put k v).value j = if j = k then v else c.value j))

/-- R185, R133: CLEAR of each group is answered OK and clears it: the counters, the sticky flags, or both latches with
the failure count, after which the outputs are evaluated; another group is answered BAD_VALUE. -/
def Obligations.ClearClearsItsGroup : Prop :=
  ∀ s x : State,
    let a := answered 0x14 .ok x
    (∀ c, c = .clearCounters ∨ c = .clear 0 → Served (clearPacket 0) 1 s x →
      exec c s = .next { a with
        counters := ⟨0, 0, 0, 0, 0, 0, 0, 0, 0, 0, 0, 0, 0, 0, 0, 0, 0, 0, 0, 0, 0, 0, 0, 0, 0, 0, 0⟩ }) ∧
    (∀ c, c = .clearFlags ∨ c = .clear 1 → Served (clearPacket 1) 1 s x →
      exec c s = .next { a with flags := ⟨false, false, false, false, false, false⟩ }) ∧
    (∀ c, c = .clearLatch ∨ c = .clear 2 → Served (clearPacket 2) 1 s x →
      exec c s = .next (State.conclude .protection x { a with
        rails := { x.rails with moduleLatch := false }
        queue := { x.queue with failures := 0 }
        meas := { x.meas with sagLatch := false } })) ∧
    (∀ g : Byte, 3 ≤ g.toNat → Served (clearPacket g) 1 s x →
      exec (.clear g) s = .next (answered 0x14 .badValue x))

/-! ### Shooting -/

/-- R16, R175, R17: START while STOPPED makes a pending commit of NEXT_SHOT or NEXT_WINDOW, and with seven VALID active
banks is answered OK and enters RUNNING with a scheduled shot due; otherwise NOT_READY. STOP while RUNNING is answered OK,
ends a pending SCHEDULED or EVENT shot and leaves no current window. Each is answered OK and nothing else in the state it
asks for. That START's swap and its entry each advance the generation by their own rule (log 9, DEDUCED), and that the values
presented are read after the swap (log 30, DESIGN CHOICE), are the model's readings. -/
def Obligations.StartAndStop : Prop :=
  (∀ s x : State, Served startPacket 1 s x →
    let committed := match x.store.commit with
      | some ⟨ts, .nextShot⟩ => x.swap ts
      | some ⟨ts, .nextWindow⟩ => x.swap ts
      | _ => x
    let running : State := State.entryClamp { answered 0x12 .ok committed with
      sched := { x.sched with
        state := .running, elapsed := 0
        window := windowAt committed.store.window.active.rows x.time.secondOfDay } }
    (x.sched.state = .running → exec .start s = .next (answered 0x12 .ok x)) ∧
    (x.sched.state = .stopped → committed.store.allValid = true →
      exec .start s = .next (State.settle .protection x running.scheduledShotDue.present)) ∧
    (x.sched.state = .stopped → committed.store.allValid = false →
      exec .start s = .next (State.conclude .protection x (answered 0x12 .notReady committed)))) ∧
  (∀ s x : State, Served stopPacket 1 s x →
    let ends := ∃ p, x.sched.slot = some p ∧ p.kind ≠ .manual
    (x.sched.state = .stopped → exec .stop s = .next (answered 0x13 .ok x)) ∧
    (x.sched.state = .running → ends →
      exec .stop s = .next (State.settle .protection x { answered 0x13 .ok x with
        sched := { x.sched with state := .stopped, window := none, slot := none }
        counters := x.counters.put .skippedStopped (satInc x.counters.skippedStopped)
        rails := { x.rails with timeToNext := none, warmUp := false } })) ∧
    (x.sched.state = .running → ¬ ends →
      exec .stop s = .next (State.settle .protection x { answered 0x13 .ok x with
        sched := { x.sched with state := .stopped, window := none }
        rails := { x.rails with timeToNext := none, warmUp := false } })))

/-- R29, R46, R23: SHOOT is answered by the first test that fails, and otherwise OK: with a READY module one MANUAL shot
is issued at the explicit rung position, clamped to the ladder, or at the ramp position; else it enters the pending slot,
which clears the cycle hold. -/
def Obligations.ShootAnswersByFirstTest : Prop :=
  ∀ (rung : Option Word16) (s x : State), Served (shootPacket rung) 1 s x →
    let bad := ∃ r, rung = some r ∧ 1008 < r.toNat
    let notReady := x.store.allValid = false
    let forbidden := x.suspended = true ∨ x.settings.captureMode = .off ∨ x.rails.moduleLatch = true ∨
      x.bandForbids = true
    let busy := x.sched.slot ≠ none
    let full := x.queue.module = .ready ∧ x.settings.capacity ≤ x.queue.records.length
    let top := (x.store.ladder.active.rows.length - 1) * 16
    let q := match rung with
      | some r => min r.toNat top
      | none => x.ramp.position
    (bad → exec (.shoot rung) s = .next (answered 0x15 .badValue x)) ∧
    (¬ bad → notReady → exec (.shoot rung) s = .next (answered 0x15 .notReady x)) ∧
    (¬ bad → ¬ notReady → forbidden → exec (.shoot rung) s = .next (answered 0x15 .protection x)) ∧
    (¬ bad → ¬ notReady → ¬ forbidden → busy → exec (.shoot rung) s = .next (answered 0x15 .busy x)) ∧
    (¬ bad → ¬ notReady → ¬ forbidden → ¬ busy → full → exec (.shoot rung) s = .next (answered 0x15 .full x)) ∧
    (¬ bad → ¬ notReady → ¬ forbidden → ¬ busy → ¬ full → x.queue.module = .ready →
      exec (.shoot rung) s = .next (State.settle .protection x
        ((answered 0x15 .ok x).issue [⟨.manual, none, q, none⟩]))) ∧
    (¬ bad → ¬ notReady → ¬ forbidden → ¬ busy → x.queue.module ≠ .ready →
      exec (.shoot rung) s = .next (State.settle .protection x { answered 0x15 .ok x with
        sched := { x.sched with slot := some ⟨.manual, x.time.calendar, rung.map (·.toNat)⟩ }
        rails := { x.rails with cycleHold := false } }))

/-- R152, R82: MEASURE adds its channels to the request set, or is answered BAD_VALUE for an empty set or an unknown
channel; RELAY is passed to a READY module with no record ORDERED and no relay in progress. -/
def Obligations.MeasureAndRelayRequests : Prop :=
  (∀ (channels : Byte) (s x : State), Served (measurePacket channels) 1 s x →
    ((channels = 0 ∨ 8 ≤ channels.toNat) → exec (.measure channels) s = .next (answered 0x16 .badValue x)) ∧
    (channels ≠ 0 → channels.toNat < 8 →
      exec (.measure channels) s = .next (State.arbitrate { answered 0x16 .ok x with
        meas := { x.meas with requests :=
          ⟨x.meas.requests.battery || channels.getLsbD 0, x.meas.requests.temperature || channels.getLsbD 1,
           x.meas.requests.aux || channels.getLsbD 2⟩ } }))) ∧
  (∀ (payload : List Byte) (s x : State), Served (relayPacket payload) 1 s x →
    (x.queue.module ≠ .ready → exec (.relay payload) s = .next (answered 0x18 .notReady x)) ∧
    (x.queue.module = .ready → (x.queue.has .ordered = true ∨ x.queue.relay = .inProgress) →
      exec (.relay payload) s = .next (answered 0x18 .busy x)) ∧
    (x.queue.module = .ready → x.queue.has .ordered = false → x.queue.relay = .idle →
      exec (.relay payload) s = .next (State.settle .protection x { answered 0x18 .ok x with
        queue := { x.queue with relay := .inProgress, relayLimit := .running 1001 }
        slink := { x.slink with tx := x.slink.tx ++ [relayPacket payload] } })))

/-! ### Tables -/

/-- R167 to R169, R172, R197: OPEN empties the table's staged bank and opens a transaction; ROW in sequence with good
fields is stored at the end of the staged bank and counted; a request out of sequence or a row that fails its value check
is answered so and abandons the transaction, which leaves its staged bank EMPTY. The row that the fields of each table
spell, the values and lengths that fail the check, and the code and the row capacity of each table; that a bracket count
is coded as the number itself is the model's (log 15, PRESUMED). -/
def Obligations.OpenAndRowLoadTheStagedBank : Prop :=
  (∀ (code : Byte) (s x : State), Served (openPacket code) 1 s x →
    (x.store.load ≠ none →
      exec (.openTable code) s = .next { answered 0x19 .badSequence x with store := x.store.abandon }) ∧
    (x.store.load = none → 7 ≤ code.toNat →
      exec (.openTable code) s = .next (answered 0x19 .badValue x)) ∧
    (∀ t, x.store.load = none → Table.ofCode code.toNat = some t →
      ((∃ c, x.store.commit = some c ∧ t ∈ c.tables) →
        exec (.openTable code) s = .next (answered 0x19 .busy x)) ∧
      ((∀ c, x.store.commit = some c → t ∉ c.tables) →
        exec (.openTable code) s = .next { answered 0x19 .ok x with
          store := { x.store.emptyStaged t with load := some ⟨t, 0, 0, 0⟩ } }))) ∧
  (∀ (table number : Byte) (fields : List Byte) (s x : State), Served (rowPacket table number fields) 1 s x →
    (x.store.load = none → exec (.row table number fields) s = .next (answered 0x1A .badSequence x)) ∧
    (∀ tr, x.store.load = some tr →
      let inSequence := Table.ofCode table.toNat = some tr.table ∧ number.toNat = tr.expected ∧
        number.toNat < tr.table.capacity
      (¬ inSequence →
        exec (.row table number fields) s = .next { answered 0x1A .badSequence x with store := x.store.abandon }) ∧
      (inSequence → x.store.storeRow tr.table fields = none →
        exec (.row table number fields) s = .next { answered 0x1A .badValue x with store := x.store.abandon }) ∧
      (∀ st, inSequence → x.store.storeRow tr.table fields = some st →
        exec (.row table number fields) s = .next { answered 0x1A .ok x with
          store := { st with load := some ⟨tr.table, tr.expected + 1, tr.received + 1,
            tr.sum + BitVec.ofNat 16 (((table :: number :: fields).map (·.toNat)).sum)⟩ } }))) ∧
  (∀ (st : TableStore) (fs : List Byte),
    st.storeRow .window fs = (readWindowRow fs).map (fun r => { st with window :=
      ⟨st.window.active, { st.window.staged with rows := st.window.staged.rows ++ [r] }⟩ }) ∧
    st.storeRow .program fs = (readProgramRow fs).map (fun r => { st with program :=
      ⟨st.program.active, { st.program.staged with rows := st.program.staged.rows ++ [r] }⟩ }) ∧
    st.storeRow .ladder fs = (readRung fs).map (fun r => { st with ladder :=
      ⟨st.ladder.active, { st.ladder.staged with rows := st.ladder.staged.rows ++ [r] }⟩ }) ∧
    st.storeRow .correction fs = (readCorrectionRow fs).map (fun r => { st with correction :=
      ⟨st.correction.active, { st.correction.staged with rows := st.correction.staged.rows ++ [r] }⟩ }) ∧
    st.storeRow .retention fs = (readRetentionRow fs).map (fun r => { st with retention :=
      ⟨st.retention.active, { st.retention.staged with rows := st.retention.staged.rows ++ [r] }⟩ }) ∧
    st.storeRow .tier fs = (readTierRow fs).map (fun r => { st with tier :=
      ⟨st.tier.active, { st.tier.staged with rows := st.tier.staged.rows ++ [r] }⟩ }) ∧
    st.storeRow .thermal fs = (readThermalRow fs).map (fun r => { st with thermal :=
      ⟨st.thermal.active, { st.thermal.staged with rows := st.thermal.staged.rows ++ [r] }⟩ })) ∧
  (∀ (st : TableStore),
    st.emptyStaged .window = { st with window := ⟨st.window.active, ⟨false, [], 0⟩⟩ } ∧
    st.emptyStaged .program = { st with program := ⟨st.program.active, ⟨false, [], 0⟩⟩ } ∧
    st.emptyStaged .ladder = { st with ladder := ⟨st.ladder.active, ⟨false, [], 0⟩⟩ } ∧
    st.emptyStaged .correction = { st with correction := ⟨st.correction.active, ⟨false, [], 0⟩⟩ } ∧
    st.emptyStaged .retention = { st with retention := ⟨st.retention.active, ⟨false, [], 0⟩⟩ } ∧
    st.emptyStaged .tier = { st with tier := ⟨st.tier.active, ⟨false, [], 0⟩⟩ } ∧
    st.emptyStaged .thermal = { st with thermal := ⟨st.thermal.active, ⟨false, [], 0⟩⟩ } ∧
    (st.load = none → st.abandon = st) ∧
    (∀ tr, st.load = some tr → st.abandon = { st.emptyStaged tr.table with load := none })) ∧
  (∀ a b c d e f g h i : Byte,
    let start := a.toNat * 65536 + b.toNat * 256 + c.toNat
    let interval := d.toNat * 65536 + e.toNat * 256 + f.toNat
    readWindowRow [a, b, c, d, e, f, g, h, i] =
      if start ≤ 86399 ∧ 1 ≤ interval ∧ interval ≤ 86400 ∧ g.toNat ≤ 7 ∧ h.toNat ≤ 1 ∧ i.toNat ≤ 1
      then some ⟨start, interval, g.toNat, decide (h = 1), decide (i = 1)⟩ else none) ∧
  (∀ a b c d e f g h i j k l : Byte,
    readProgramRow [a, b, c, d, e, f, g, h, i, j, k, l] =
      if a.toNat ≤ 2 ∧ c.toNat ≤ 64 ∧ 1 ≤ d.toNat ∧ d.toNat ≤ 64 ∧ e.toNat ≤ 63 ∧ f.toNat ≤ 63 ∧ 1 ≤ g.toNat ∧
        (h = 1 ∨ h = 3 ∨ h = 5) ∧ 1 ≤ i.toNat ∧ i.toNat ≤ 4 ∧ j.toNat ≤ 63 ∧ k.toNat ≤ 63 ∧ l.toNat ≤ 63
      then some ⟨if a = 0 then .metered else if a = 1 then .timed else .fixed, b.toNat, c.toNat, d.toNat, e.toNat,
        f.toNat, g.toNat, h.toNat, i.toNat, j.toNat, k.toNat, l.toNat⟩ else none) ∧
  (∀ a b c d e : Byte,
    let shutter := a.toNat * 16777216 + b.toNat * 65536 + c.toNat * 256 + d.toNat
    readRung [a, b, c, d, e] =
      if 1 ≤ shutter ∧ shutter ≤ 240000000 ∧ e.toNat ≤ 31 then some ⟨shutter, e.toNat⟩ else none) ∧
  (∀ a b c : Byte,
    readCorrectionRow [a, b, c] =
      if -255 ≤ (a ++ b).toInt ∧ (a ++ b).toInt ≤ 255 ∧ -64 ≤ c.toInt ∧ c.toInt ≤ 64
      then some ⟨(a ++ b).toInt, c.toInt⟩ else none) ∧
  (∀ a b c d e f g h : Byte,
    readRetentionRow [a, b, c, d, e, f, g, h] =
      if a ≠ 0 ∧ a.toNat < 16 ∧ d ≠ 0 ∧ d.toNat < 16 ∧ e.toNat ≤ 2 ∧ 1 ≤ f.toNat ∧ g.toNat ≤ 2 ∧ 2 ≤ h.toNat
      then some ⟨([(0, Role.center), (1, .member), (2, .event), (3, .manual)].filter (fun r => a.getLsbD r.1)).map (·.2),
        b.toNat, c.toNat,
        ([(0, Tier.full), (1, .normal), (2, .lean), (3, .critical)].filter (fun r => d.getLsbD r.1)).map (·.2),
        if e = 0 then .any else if e = 1 then .changed else .unchanged, f.toNat,
        if g = 0 then .keep else if g = 1 then .drop else .keepEvery, h.toNat⟩ else none) ∧
  (∀ a b c d e f g h i j k : Byte,
    let threshold := a.toNat * 256 + b.toNat
    let hysteresis := c.toNat * 256 + d.toNat
    let hold := g.toNat * 65536 + h.toNat * 256 + i.toNat
    readTierRow [a, b, c, d, e, f, g, h, i, j, k] =
      if threshold ≤ 20000 ∧ hysteresis ≤ 1000 ∧ e.toNat ≤ 4 ∧ 1 ≤ f.toNat ∧ f.toNat ≤ 8 ∧ hold ≤ 86400 ∧ k.toNat ≤ 1
      then some ⟨threshold, hysteresis, if e = 0 then .x1 else if e = 1 then .x2 else if e = 2 then .x4
        else if e = 3 then .x8 else .suspend, f.toNat, hold, j.toNat, decide (k = 1)⟩ else none) ∧
  (∀ a b c d : Byte,
    readThermalRow [a, b, c, d] =
      if -400 ≤ (a ++ b).toInt ∧ (a ++ b).toInt ≤ 850 ∧ c.toNat ≤ 16 ∧ d.toNat ≤ 1
      then some ⟨(a ++ b).toInt, c.toNat, decide (d = 1)⟩ else none) ∧
  (∀ fs : List Byte,
    (fs.length ≠ 9 → readWindowRow fs = none) ∧ (fs.length ≠ 12 → readProgramRow fs = none) ∧
    (fs.length ≠ 5 → readRung fs = none) ∧ (fs.length ≠ 3 → readCorrectionRow fs = none) ∧
    (fs.length ≠ 8 → readRetentionRow fs = none) ∧ (fs.length ≠ 11 → readTierRow fs = none) ∧
    (fs.length ≠ 4 → readThermalRow fs = none)) ∧
  [0, 1, 2, 3, 4, 5, 6].map Table.ofCode =
    [some .window, some .program, some .ladder, some .correction, some .retention, some .tier, some .thermal] ∧
  (∀ n : Nat, 7 ≤ n → Table.ofCode n = none) ∧
  [Table.window, .program, .ladder, .correction, .retention, .tier, .thermal].map Table.capacity =
    [16, 8, 64, 16, 16, 4, 8]

/-- R170, R171, R173, R175: CLOSE with the count, the sum and the table's own check right makes the staged bank VALID with
its bank check; otherwise CHECK_FAILED abandons the transaction. A COMMIT is answered by the first test that fails, and
otherwise OK: AT_ONCE swaps in the event, the other points leave a pending commit. The check that each table's rows pass
at CLOSE, the set a COMMIT names, and the cross checks by the banks that a swap makes active. -/
def Obligations.CloseSealsAndCommitSwaps : Prop :=
  (∀ (count : Byte) (check : Word16) (s x : State), Served (closePacket count check) 1 s x →
    (x.store.load = none → exec (.close count check) s = .next (answered 0x1B .badSequence x)) ∧
    (∀ tr, x.store.load = some tr →
      let good := count.toNat = tr.received ∧ check = tr.sum ∧ x.store.stagedOk tr.table = true
      (good → exec (.close count check) s = .next { answered 0x1B .ok x with
        store := { x.store.sealStaged tr.table check with load := none } }) ∧
      (¬ good → exec (.close count check) s = .next { answered 0x1B .checkFailed x with
        store := x.store.abandon }))) ∧
  (∀ (tables point : Byte) (s x : State), Served (commitPacket tables point) 1 s x →
    (tables = 0 ∨ 128 ≤ tables.toNat ∨ 3 ≤ point.toNat →
      exec (.commit tables point) s = .next (answered 0x1C .badValue x)) ∧
    (∀ c, commitOf tables point = some c →
      let staged := ∀ t ∈ c.tables, x.store.stagedValid t = true
      (x.store.commit ≠ none → exec (.commit tables point) s = .next (answered 0x1C .busy x)) ∧
      (x.store.commit = none → x.store.load ≠ none →
        exec (.commit tables point) s = .next (answered 0x1C .badSequence x)) ∧
      (x.store.commit = none → x.store.load = none → ¬ staged →
        exec (.commit tables point) s = .next (answered 0x1C .notReady x)) ∧
      (x.store.commit = none → x.store.load = none → staged → x.store.crossOk c.tables = false →
        exec (.commit tables point) s = .next (answered 0x1C .checkFailed x)) ∧
      (x.store.commit = none → x.store.load = none → staged → x.store.crossOk c.tables = true →
        exec (.commit tables point) s = .next (State.conclude .protection x
          (if c.point = .atOnce then (answered 0x1C .ok x).swap c.tables
           else { answered 0x1C .ok x with store := { x.store with commit := some c } }))))) ∧
  (∀ tables point : Byte, commitOf tables point =
    if tables ≠ 0 ∧ tables.toNat < 128 ∧ point.toNat ≤ 2 then
      some ⟨([(0, Table.window), (1, .program), (2, .ladder), (3, .correction), (4, .retention), (5, .tier),
          (6, .thermal)].filter (fun e => tables.getLsbD e.1)).map (·.2),
        if point = 0 then .atOnce else if point = 1 then .nextShot else .nextWindow⟩
    else none) ∧
  (∀ (st : TableStore) (check : Word16),
    st.sealStaged .window check = { st with window := ⟨st.window.active, ⟨true, st.window.staged.rows, check⟩⟩ } ∧
    st.sealStaged .program check = { st with program := ⟨st.program.active, ⟨true, st.program.staged.rows, check⟩⟩ } ∧
    st.sealStaged .ladder check = { st with ladder := ⟨st.ladder.active, ⟨true, st.ladder.staged.rows, check⟩⟩ } ∧
    st.sealStaged .correction check =
      { st with correction := ⟨st.correction.active, ⟨true, st.correction.staged.rows, check⟩⟩ } ∧
    st.sealStaged .retention check =
      { st with retention := ⟨st.retention.active, ⟨true, st.retention.staged.rows, check⟩⟩ } ∧
    st.sealStaged .tier check = { st with tier := ⟨st.tier.active, ⟨true, st.tier.staged.rows, check⟩⟩ } ∧
    st.sealStaged .thermal check =
      { st with thermal := ⟨st.thermal.active, ⟨true, st.thermal.staged.rows, check⟩⟩ }) ∧
  (∀ st : TableStore,
    [Table.window, .program, .ladder, .correction, .retention, .tier, .thermal].map st.stagedValid =
      [st.window.staged.valid, st.program.staged.valid, st.ladder.staged.valid, st.correction.staged.valid,
       st.retention.staged.valid, st.tier.staged.valid, st.thermal.staged.valid] ∧
    (st.allValid = true ↔ st.window.active.valid = true ∧ st.program.active.valid = true ∧
      st.ladder.active.valid = true ∧ st.correction.active.valid = true ∧ st.retention.active.valid = true ∧
      st.tier.active.valid = true ∧ st.thermal.active.valid = true)) ∧
  (∀ st : TableStore,
    let w := st.window.staged.rows
    let p := st.program.staged.rows
    let l := st.ladder.staged.rows
    let k := st.correction.staged.rows
    let r := st.retention.staged.rows
    let e := st.tier.staged.rows
    let h := st.thermal.staged.rows
    (st.stagedOk .window = true ↔ 1 ≤ w.length ∧ w.length ≤ 16 ∧
      ∀ (i : Nat) (a b : WindowRow), w[i]? = some a → w[i + 1]? = some b → a.start < b.start) ∧
    (st.stagedOk .program = true ↔ 1 ≤ p.length ∧ p.length ≤ 8 ∧ ∀ a ∈ p, a.floor ≤ a.ceiling) ∧
    (st.stagedOk .ladder = true ↔ 2 ≤ l.length ∧ l.length ≤ 64 ∧
      ∀ (i : Nat) (a b : Rung), l[i]? = some a → l[i + 1]? = some b →
        a.shutter ≤ b.shutter ∧ a.gain ≤ b.gain ∧ (a.shutter < b.shutter ∨ a.gain < b.gain)) ∧
    (st.stagedOk .correction = true ↔ 1 ≤ k.length ∧ k.length ≤ 16 ∧
      (∀ (i : Nat) (a b : CorrectionRow), k[i]? = some a → k[i + 1]? = some b → a.bound < b.bound) ∧
      k.getLast?.map (·.bound) = some 255) ∧
    (st.stagedOk .retention = true ↔ 1 ≤ r.length ∧ r.length ≤ 16 ∧ ∀ a ∈ r, a.meanLow ≤ a.meanHigh) ∧
    (st.stagedOk .tier = true ↔ e.length = 4 ∧
      (∀ (i : Nat) (a b : TierRow), e[i]? = some a → e[i + 1]? = some b → b.threshold < a.threshold) ∧
      e.getLast?.map (·.threshold) = some 0) ∧
    (st.stagedOk .thermal = true ↔ 1 ≤ h.length ∧ h.length ≤ 8 ∧
      (∀ (i : Nat) (a b : ThermalRow), h[i]? = some a → h[i + 1]? = some b → a.bound < b.bound) ∧
      h.getLast?.map (·.bound) = some 850)) ∧
  (∀ (st : TableStore) (tables : List Table),
    let w := if .window ∈ tables then st.window.staged else st.window.active
    let p := if .program ∈ tables then st.program.staged else st.program.active
    let l := if .ladder ∈ tables then st.ladder.staged else st.ladder.active
    (st.crossOk tables = true ↔
      (w.valid = true → p.valid = true → ∀ a ∈ w.rows, a.program < p.rows.length) ∧
      (p.valid = true → l.valid = true → ∀ a ∈ p.rows, a.ceiling < l.rows.length ∧ a.timedStart < l.rows.length ∧
        a.timedEnd < l.rows.length ∧ a.fixedRung < l.rows.length)))

/-- R174, R177, R94, R136, R55, R56: a swap exchanges active and staged bank of each named table and no other, clears the
pending commit, resets the decimation counters for RETENTION, selects the band for THERMAL, evaluates the tier for TIER,
clamps the ramp for LADDER and PROGRAM with one step of the generation, and selects the window for WINDOW with the clamp
of an entry, elapsed and all else of the Scheduler kept; without a temperature result the band is absent, and without a
battery result the tier stays. Links, flags and inputs are kept. A clamp is to the ladder and, while RUNNING, to the current
window's program, by the banks after the swap; that of an entry (R54) advances the generation when it moves the position.
-/
def Obligations.SwapExchangesNamedBanks : Prop :=
  let program (x : State) : Option ProgramRow :=
    if x.sched.state = .running then
      (x.sched.window.bind (fun i => x.store.window.active.rows[i]?)).bind
        (fun w => x.store.program.active.rows[w.program]?)
    else none
  let clamped (x : State) (q : Nat) : Nat :=
    let onLadder := min q ((x.store.ladder.active.rows.length - 1) * 16)
    match program x with
    | some r => max (r.floor * 16) (min onLadder (r.ceiling * 16))
    | none => onLadder
  (∀ x : State, x.entryClamp =
    if clamped x x.ramp.position = x.ramp.position then x
    else { x with ramp := { x.ramp with
      position := clamped x x.ramp.position, generation := x.ramp.generation + 1 } }) ∧
  ∀ (tables : List Table) (s : State),
    let t := s.swap tables
    t.store = { s.store with
      window := if .window ∈ tables then ⟨s.store.window.staged, s.store.window.active⟩ else s.store.window
      program := if .program ∈ tables then ⟨s.store.program.staged, s.store.program.active⟩ else s.store.program
      ladder := if .ladder ∈ tables then ⟨s.store.ladder.staged, s.store.ladder.active⟩ else s.store.ladder
      correction := if .correction ∈ tables then ⟨s.store.correction.staged, s.store.correction.active⟩
        else s.store.correction
      retention := if .retention ∈ tables then ⟨s.store.retention.staged, s.store.retention.active⟩
        else s.store.retention
      tier := if .tier ∈ tables then ⟨s.store.tier.staged, s.store.tier.active⟩ else s.store.tier
      thermal := if .thermal ∈ tables then ⟨s.store.thermal.staged, s.store.thermal.active⟩ else s.store.thermal
      commit := none } ∧
    t.retention = (if .retention ∈ tables
      then { s.retention with decimation := List.replicate s.store.retention.staged.rows.length 0 }
      else s.retention) ∧
    (.thermal ∈ tables → ∀ v, s.meas.lastTemperature = some v →
      t.rails.band = bandOf s.store.thermal.staged.rows v) ∧
    (.thermal ∈ tables → s.meas.lastTemperature = none → t.rails.band = none) ∧
    t.rails = { s.rails with band := t.rails.band } ∧ t.meas = { s.meas with tier := t.meas.tier } ∧
    (.thermal ∉ tables → t.rails = s.rails) ∧
    (.tier ∈ tables → ∀ v, s.meas.lastBattery = some v →
      t.meas.tier = evaluateTier s.store.tier.staged.rows s.meas.tier v) ∧
    (.tier ∉ tables ∨ s.meas.lastBattery = none → t.meas = s.meas) ∧
    (s.sched.state = .running → .window ∈ tables →
      t.sched = { s.sched with window := windowAt s.store.window.staged.rows s.time.secondOfDay }) ∧
    (s.sched.state = .stopped ∨ .window ∉ tables → t.sched = s.sched) ∧
    (.ladder ∈ tables ∨ .program ∈ tables → t.ramp.generation = s.ramp.generation + 1) ∧
    (.ladder ∉ tables → .program ∉ tables →
      (t.ramp.generation = s.ramp.generation ↔ t.ramp.position = s.ramp.position)) ∧
    (.ladder ∉ tables → .program ∉ tables → .window ∉ tables → t.ramp = s.ramp) ∧
    (.ladder ∉ tables → .program ∉ tables → s.sched.state = .stopped → t.ramp = s.ramp) ∧
    (.ladder ∈ tables → s.sched.state = .stopped →
      t.ramp.position = min s.ramp.position ((s.store.ladder.staged.rows.length - 1) * 16)) ∧
    (.ladder ∈ tables ∨ .program ∈ tables ∨ (.window ∈ tables ∧ s.sched.state = .running) →
      t.ramp.position = clamped t s.ramp.position) ∧
    t.ramp.lastCorrection = s.ramp.lastCorrection ∧ t.queue = s.queue ∧ t.session = s.session ∧
    t.counters = s.counters ∧ t.settings = s.settings ∧ t.time = s.time ∧ t.plink = s.plink ∧ t.slink = s.slink ∧
    t.flags = s.flags ∧ t.inputs = s.inputs ∧ t.pins = s.pins ∧ t.pending = s.pending


/-! ### Measurement and heater -/

/-- R147, R150, R151, R155, R160, R162, R136, R137: what the timeouts of the Measurement Unit and of the heater do in RUN.
A completed conversion stores its clamped result and selects the tier or the band, whose change has the outputs evaluated;
the measure period asks for BATTERY and TEMPERATURE and starts again; a closed blanking window takes a trip while the
comparator is tripped; a heater period starts with the band's duty, and its on-phase ends. -/
def Obligations.MeasurementAndHeaterTimeouts : Prop :=
  ∀ s : State, s.time.domain = .run →
    (∀ (c : Channel) (q : Int), s.meas.converting = some c → s.meas.conversion.due = true →
      let volts := (max 0 (min q 20000)).toNat
      let degrees := max (-500) (min q 1500)
      let y : State := { s with
        meas := { s.meas with
          converting := none
          conversion := .idle
          lastBattery := if c = .battery then some volts else s.meas.lastBattery
          lastTemperature := if c = .temperature then some degrees else s.meas.lastTemperature
          lastAux := if c = .aux then some (max 0 (min q 3300)).toNat else s.meas.lastAux
          tier := if c = .battery then evaluateTier s.store.tier.active.rows s.meas.tier volts else s.meas.tier }
        rails := { s.rails with
          band := if c = .temperature then bandOf s.store.thermal.active.rows degrees else s.rails.band } }
      exec (.conversionComplete q) s = .next (State.arbitrate
        (if y.meas.tier = s.meas.tier ∧ y.rails.band = s.rails.band then y else State.conclude .protection s y))) ∧
    (s.meas.measurePeriod.due = true →
      exec .measurePeriodExpiry s = .next (State.arbitrate { s with meas := { s.meas with
        requests := { s.meas.requests with battery := true, temperature := true }
        measurePeriod := Timer.startSeconds s.settings.measurePeriod } })) ∧
    (s.meas.blanking.due = true →
      let closed : State := { s with meas := { s.meas with blanking := .idle } }
      let trips := s.meas.tripped = true ∧ s.settings.sagEnable = true
      (¬ trips → exec .blankingWindowExpiry s = .next closed.arbitrate) ∧
      (trips → exec .blankingWindowExpiry s = .next (State.concludeLoads s { closed with
        counters := s.counters.put .sagTrips (satInc s.counters.sagTrips)
        flags := { s.flags with sag := true }
        meas := { closed.meas with
          sagLatch := true, requests := { s.meas.requests with battery := true } } }).arbitrate)) ∧
    (s.rails.heaterPeriod.due = true →
      exec .heaterPeriodExpiry s = .next (State.concludeLoads s { s with rails := { s.rails with
        heaterPeriod := Timer.startSeconds s.settings.heaterPeriod
        periodDuty := s.bandDuty
        phaseOn := decide (0 < s.bandDuty)
        heaterOnPhase := if 0 < s.bandDuty ∧ s.bandDuty < 16
          then Timer.start (s.bandDuty * s.settings.heaterPeriod * 1000 / 16) else .idle } })) ∧
    (s.rails.heaterOnPhase.due = true →
      exec .heaterOnPhaseExpiry s = .next (State.concludeLoads s { s with rails := { s.rails with
        heaterOnPhase := .idle, phaseOn := false } }))

/-- R19, R136, R140, R160, R162: the tier that a battery result selects, by its three cases (thresholds descend), and the
band that a temperature result selects; the tier of each row, and what the blocks read from the rows of the tier and the
band. -/
def Obligations.TierAndBandSelection : Prop :=
  (∀ (rows : List TierRow) (v i : Nat) (r : TierRow), rows.length ≤ 4 → rows[i]? = some r → r.threshold ≤ v →
    (∀ j q, j < i → rows[j]? = some q → v < q.threshold) →
    evaluateTier rows .unset v = Tier.ofRow i ∧
    (∀ (t : Tier) (c : Nat) (now : TierRow), t.row = some c → rows[c]? = some now → v < now.threshold →
      evaluateTier rows t v = Tier.ofRow i)) ∧
  (∀ (rows : List TierRow) (v c : Nat) (t : Tier) (now : TierRow),
    t.row = some c → rows[c]? = some now → now.threshold ≤ v →
    (∀ i r, i < c → rows[i]? = some r → r.threshold + r.hysteresis ≤ v →
      (∀ j q, j < i → rows[j]? = some q → v < q.threshold + q.hysteresis) →
      evaluateTier rows t v = Tier.ofRow i) ∧
    ((∀ j q, j < c → rows[j]? = some q → v < q.threshold + q.hysteresis) → evaluateTier rows t v = t)) ∧
  (∀ v : Nat, evaluateTier [] .unset v = .unset) ∧
  (∀ (rows : List ThermalRow) (t : Int) (i : Nat) (r : ThermalRow), rows[i]? = some r →
    (t ≤ r.bound → (∀ (j : Nat) (q : ThermalRow), j < i → rows[j]? = some q → q.bound < t) → bandOf rows t = some i) ∧
    ((∀ (j : Nat) (q : ThermalRow), rows[j]? = some q → q.bound < t) → bandOf rows t = some (rows.length - 1))) ∧
  (∀ t : Int, bandOf [] t = none) ∧
  [0, 1, 2, 3].map Tier.ofRow = [.full, .normal, .lean, .critical] ∧
  [Tier.unset, .full, .normal, .lean, .critical].map Tier.row = [none, some 0, some 1, some 2, some 3] ∧
  (∀ s : State,
    s.tierRow = (s.meas.tier.row).bind (fun i => s.store.tier.active.rows[i]?) ∧
    (s.tierRow = none → s.stretch = .x1 ∧ s.tierBansHeat = false) ∧
    (∀ r, s.tierRow = some r → s.stretch = r.stretch ∧ s.tierBansHeat = !r.heaterAllowed) ∧
    (s.suspended = true ↔ s.stretch = .suspend) ∧
    [Stretch.x1, .x2, .x4, .x8, .suspend].map Stretch.factor = [1, 2, 4, 8, 1] ∧
    (let row := s.rails.band.bind (fun i => s.store.thermal.active.rows[i]?)
     (row = none → s.bandForbids = false ∧ s.bandDuty = 0) ∧
     (∀ r, row = some r → s.bandForbids = !r.capturePermitted ∧ s.bandDuty = r.duty)))

/-! ### Exposure and retention -/

/-- R37, R38: a position is clamped to the ladder; between two rungs the shutter time is interpolated in sixteenths,
truncated, and the gain step is the lower rung's; on the last rung both are its own. -/
def Obligations.ExposureInterpolatesTheLadder : Prop :=
  ∀ (ladder : List Rung) (q : Int), ladder ≠ [] →
    let pos := clampToLadder ladder q
    (pos : Int) = max 0 (min q (((ladder.length : Int) - 1) * 16)) ∧
    (∀ (k f : Nat) (a b : Rung), pos = k * 16 + f → f < 16 → ladder[k]? = some a → ladder[k + 1]? = some b →
      exposureAt ladder q = ⟨pos, a.shutter + ((b.shutter - a.shutter) * f) / 16, a.gain⟩ ∧
      (a.shutter ≤ b.shutter →
        a.shutter ≤ (exposureAt ladder q).shutter ∧ (exposureAt ladder q).shutter ≤ b.shutter)) ∧
    (∀ (a : Rung), pos = (ladder.length - 1) * 16 → ladder[ladder.length - 1]? = some a →
      exposureAt ladder q = ⟨pos, a.shutter, a.gain⟩)

/-- R49, R50, with R40, R47, R48, R51, R52: a report updates the ramp only with the present generation and a METERED
program; the correction of its deviation is 0 in the dead band and the table's otherwise, at most −16 when clipped-high
reaches the clip limit, and clamped to the slew limit; clipped-low has no part in it. The current program is the row that
the current window's row names. -/
def Obligations.RampUpdateStages : Prop :=
  (∀ (p : ProgramRow) (rows pre post : List CorrectionRow) (r : CorrectionRow) (f : Facts),
    let d := (f.mean.toNat : Int) - p.target
    rows = pre ++ r :: post → (∀ q : CorrectionRow, q ∈ pre → q.bound < d) → d ≤ r.bound →
    let c := if d.natAbs ≤ p.deadBand then 0 else r.correction
    let guarded := if p.clipLimit ≤ f.clippedHigh.toNat then min c (-16) else c
    appliedCorrection p rows f = max (-(p.slew : Int)) (min guarded p.slew)) ∧
  (∀ (p : ProgramRow) (rows : List CorrectionRow) (f : Facts) (low : Byte),
    appliedCorrection p rows { f with clippedLow := low } = appliedCorrection p rows f) ∧
  (∀ (s : State) (r : ShotRecord) (f : Facts), r.generation ≠ some s.ramp.generation →
    s.rampUpdate r f = { s with counters := s.counters.put .staleReport (satInc s.counters.staleReport) }) ∧
  (∀ (s : State) (r : ShotRecord) (f : Facts) (x : Indices), r.generation = some s.ramp.generation →
    r.indices = some x →
    (s.store.program.active.rows[x.program]? = none → s.rampUpdate r f = s) ∧
    (∀ p, s.store.program.active.rows[x.program]? = some p → p.mode ≠ .metered → s.rampUpdate r f = s) ∧
    (∀ p q, s.store.program.active.rows[x.program]? = some p → p.mode = .metered →
      (s.sched.state = .stopped ∧ q = p ∨ s.sched.state = .running ∧ s.currentProgram = some q) →
      let a := appliedCorrection p s.store.correction.active.rows f
      s.rampUpdate r f = { s with ramp := {
        position := (max ((q.floor * 16 : Nat) : Int) (min ((s.ramp.position : Int) + a) ((q.ceiling * 16 : Nat) : Int))).toNat
        generation := if a = 0 then s.ramp.generation else s.ramp.generation + 1
        lastCorrection := a } })) ∧
  (∀ s : State, s.currentProgram =
    (s.sched.window.bind (fun i => s.store.window.active.rows[i]?)).bind
      (fun w => s.store.program.active.rows[w.program]?))

/-- R88 to R93: the first row that passes the tests of role, mean, tier and change decides, KEEP and DROP as they say and
KEEP_EVERY by its decimation counter; without such a row the verdict is KEEP. -/
def Obligations.RetentionVerdict : Prop :=
  let passes (role : Role) (mean : Nat) (tier : Tier) (last : Option Byte) (row : RetentionRow) : Prop :=
    role ∈ row.roles ∧ row.meanLow ≤ mean ∧ mean ≤ row.meanHigh ∧
    (tier = .unset ∧ (∀ t ∈ [Tier.full, .normal, .lean, .critical], t ∈ row.tiers) ∨ tier ≠ .unset ∧ tier ∈ row.tiers) ∧
    (row.change = .any ∨
      (row.change = .changed ∧ ∀ r, last = some r → row.delta ≤ ((mean : Int) - r.toNat).natAbs) ∨
      (row.change = .unchanged ∧ ∃ r, last = some r ∧ ((mean : Int) - r.toNat).natAbs < row.delta))
  ∀ (s : State) (role : Role) (mean : Byte),
    let hits := passes role mean.toNat s.meas.tier s.retention.lastKeptCenter
    let rows := s.store.retention.active.rows
    ((∀ row ∈ rows, ¬ hits row) →
      s.verdictKeeps role mean = true ∧ s.decimationAfter role mean = s.retention.decimation) ∧
    (∀ i row, rows[i]? = some row → hits row → (∀ j q, j < i → rows[j]? = some q → ¬ hits q) →
      let n := s.retention.decimation.getD i 0 + 1
      (row.action = .keep →
        s.verdictKeeps role mean = true ∧ s.decimationAfter role mean = s.retention.decimation) ∧
      (row.action = .drop →
        s.verdictKeeps role mean = false ∧ s.decimationAfter role mean = s.retention.decimation) ∧
      (row.action = .keepEvery → n = row.every →
        s.verdictKeeps role mean = true ∧ s.decimationAfter role mean = s.retention.decimation.set i 0) ∧
      (row.action = .keepEvery → n ≠ row.every →
        s.verdictKeeps role mean = false ∧ s.decimationAfter role mean = s.retention.decimation.set i n))

/-! ### Links -/

/-- R191, R195: the packet of a well-formed command is accepted by its port and names that command again, and a packet
that names a command is that command's packet: no field of a packet is lost or read twice. The kind code and the
payload of each, field by field. That a SHOOT with another
presence byte than 0 or 1 is refused by the port is the model's reading (log 14, DEDUCED). -/
def Obligations.PacketsAndCommandsAgree : Prop :=
  (∀ (c : Instr) (l : Link) (p : Packet), WellFormed c = true → packetOf c = some (l, p) →
    p.accepted l = true ∧ p.payload.length ≤ 48 ∧ commandOf l p = some c ∧
      p.wire = 0xC3 :: p.kind :: BitVec.ofNat 8 p.payload.length :: (p.payload ++ [p.check])) ∧
  (∀ (l : Link) (p : Packet) (c : Instr), commandOf l p = some c → packetOf c = some (l, p) ∧ WellFormed c = true) ∧
  (let be2 (n : Nat) : List Byte := [BitVec.ofNat 8 (n / 256), BitVec.ofNat 8 n]
   let be4 (n : Nat) : List Byte := [BitVec.ofNat 8 (n / 16777216), BitVec.ofNat 8 (n / 65536)] ++ be2 n
   (∀ (t : Byte), packetOf .ready = some (.p, ⟨0x01, []⟩) ∧ packetOf .sleep = some (.p, ⟨0x02, []⟩) ∧
      packetOf (.claim t) = some (.p, ⟨0x03, [t]⟩) ∧ packetOf (.waive t) = some (.p, ⟨0x04, [t]⟩)) ∧
   (∀ (v : Word32) (i : Byte),
      packetOf (.setClock v) = some (.p, ⟨0x10, 0 :: be4 v.toNat⟩) ∧
      packetOf (.setDayOffset v) = some (.p, ⟨0x10, 1 :: be4 v.toNat⟩) ∧
      packetOf (.setCapacity v) = some (.p, ⟨0x10, 2 :: be4 v.toNat⟩) ∧
      packetOf (.setCaptureMode v) = some (.p, ⟨0x10, 16 :: be4 v.toNat⟩) ∧
      packetOf (.setHeaterMode v) = some (.p, ⟨0x10, 17 :: be4 v.toNat⟩) ∧
      packetOf (.setSagThreshold v) = some (.p, ⟨0x10, 20 :: be4 v.toNat⟩) ∧
      packetOf (.setSagEnable v) = some (.p, ⟨0x10, 21 :: be4 v.toNat⟩) ∧
      packetOf (.setRampPosition v) = some (.p, ⟨0x10, 26 :: be4 v.toNat⟩) ∧
      packetOf (.set i v) = some (.p, ⟨0x10, i :: be4 v.toNat⟩) ∧ packetOf (.get i) = some (.p, ⟨0x11, [i]⟩)) ∧
   (packetOf .start = some (.p, ⟨0x12, []⟩) ∧ packetOf .stop = some (.p, ⟨0x13, []⟩) ∧
      packetOf .clearCounters = some (.p, ⟨0x14, [0]⟩) ∧ packetOf .clearFlags = some (.p, ⟨0x14, [1]⟩) ∧
      packetOf .clearLatch = some (.p, ⟨0x14, [2]⟩) ∧ (∀ g, packetOf (.clear g) = some (.p, ⟨0x14, [g]⟩)) ∧
      packetOf (.shoot none) = some (.p, ⟨0x15, [0]⟩) ∧
      (∀ r : Word16, packetOf (.shoot (some r)) = some (.p, ⟨0x15, 1 :: be2 r.toNat⟩)) ∧
      (∀ b, packetOf (.measure b) = some (.p, ⟨0x16, [b]⟩)) ∧ packetOf .query = some (.p, ⟨0x17, []⟩) ∧
      (∀ bs, packetOf (.relay bs) = some (.p, ⟨0x18, bs⟩) ∧ packetOf (.moduleRelay bs) = some (.s, ⟨0x18, bs⟩))) ∧
   (∀ (t n : Byte) (fs : List Byte) (w : Word16),
      packetOf (.openTable t) = some (.p, ⟨0x19, [t]⟩) ∧ packetOf (.row t n fs) = some (.p, ⟨0x1A, [t, n] ++ fs⟩) ∧
      packetOf (.close n w) = some (.p, ⟨0x1B, n :: be2 w.toNat⟩) ∧
      packetOf (.commit t n) = some (.p, ⟨0x1C, [t, n]⟩)) ∧
   (∀ (t gain mean high low : Byte) (v : Word32),
      packetOf .hello = some (.s, ⟨0x50, []⟩) ∧
      packetOf (.frame t v gain mean high low) = some (.s, ⟨0x51, [t] ++ be4 v.toNat ++ [gain, mean, high, low]⟩) ∧
      packetOf (.delivered t) = some (.s, ⟨0x52, [t]⟩) ∧ packetOf (.undelivered t) = some (.s, ⟨0x53, [t]⟩) ∧
      packetOf (.fault t) = some (.s, ⟨0x54, [t]⟩)))

/-- R191, R192, R193, R194, R113: in RUN a whole packet that meets a hunting receiver joins the receive queue, is an overrun,
or is discarded as bad; in any state it is the sequence of its bytes; byte by byte, the length byte is at most 48, the payload is collected, and the check byte completes the
packet and has it judged; the gap timeout discards. The check is the CRC-8 with polynomial 07h over kind, length and payload.
A completed transmission leaves the line, and that of an OFFER sets offer sent (log 12, DEDUCED). At each arrival and each
completion, and in its step, the link's receive queue is served (log 4, DESIGN CHOICE): the packet at its head is handed over,
which is the step of its command, and then the next, until one waits or none is left. Outside RUN none of these does
anything. A sync byte without its stop bit starts nothing (log 13, DESIGN CHOICE), a gap timeout that is not due or meets a
hunting receiver does nothing (log 1, DESIGN CHOICE), and a completion on an empty line serves the queue alone (log 4), which
changes nothing where no head could be served. -/
def Obligations.LinkPortsReceiveAndSend : Prop :=
  (∀ p : Packet,
    let shift (c : Byte) : Byte := if c.getLsbD 7 = true then (c <<< 1) ^^^ 0x07 else c <<< 1
    p.check = (p.kind :: BitVec.ofNat 8 p.payload.length :: p.payload).foldl
      (fun c b => shift (shift (shift (shift (shift (shift (shift (shift (c ^^^ b))))))))) 0) ∧
  helloPacket.wire = [0xC3, 0x50, 0x00, 0x0C] ∧
  (badCounter .p = .pBadPackets ∧ badCounter .s = .sBadPackets ∧
    overrunCounter .p = .pOverruns ∧ overrunCounter .s = .sOverruns) ∧
  ∀ (l : Link) (s : State),
    let still := s.setPort l { s.port l with receiver := .hunting, gap := .idle }
    let bad : State := { still with
      counters := s.counters.put (badCounter l) (satInc (s.counters.value (badCounter l)))
      flags := { s.flags with badPacket := true } }
    let judged (p : Packet) (check : Byte) : State :=
      if check = p.check ∧ p.accepted l = true then State.servePort l
        (if (s.port l).rx.length < 4 then
          s.setPort l { s.port l with receiver := .hunting, gap := .idle, rx := (s.port l).rx ++ [p] }
         else { still with
          counters := s.counters.put (overrunCounter l) (satInc (s.counters.value (overrunCounter l))) })
      else bad
    (s.time.domain ≠ .run →
      (∀ kind payload check, exec (.packetReceived l kind payload check) s = .next s) ∧
      (∀ b stop, exec (.byteReceived l b stop) s = .next s) ∧
      exec (.linkGapTimeout l) s = .next s ∧ exec (.transmissionComplete l) s = .next s) ∧
    (∀ (kind : Byte) (payload : List Byte) (check : Byte),
      exec (.packetReceived l kind payload check) s =
        (0xC3 :: kind :: BitVec.ofNat 8 payload.length :: (payload ++ [check])).foldl
          (fun (o : Host.Outcome State Fault Refusal) b => match o with
            | .next y => exec (.byteReceived l b true) y
            | stopped => stopped) (.next s)) ∧
    (s.time.domain = .run →
      (∀ (kind : Byte) (payload : List Byte) (check : Byte), (s.port l).receiver = .hunting → payload.length ≤ 48 →
        exec (.packetReceived l kind payload check) s = .next (judged ⟨kind, payload⟩ check)) ∧
      (∀ b stop, (s.port l).receiver = .hunting → b ≠ 0xC3 ∨ stop = false →
        exec (.byteReceived l b stop) s = .next s) ∧
      ((s.port l).receiver = .hunting →
        exec (.byteReceived l 0xC3 true) s = .next (s.setPort l { s.port l with
          receiver := .assembling [], gap := .running 3 })) ∧
      (∀ bytes b, (s.port l).receiver = .assembling bytes → exec (.byteReceived l b false) s = .next bad) ∧
      (∀ b, (s.port l).receiver = .assembling [] →
        exec (.byteReceived l b true) s = .next (s.setPort l { s.port l with
          receiver := .assembling [b], gap := .running 3 })) ∧
      (∀ kind len, (s.port l).receiver = .assembling [kind] → 48 < len.toNat →
        exec (.byteReceived l len true) s = .next bad) ∧
      (∀ kind len, (s.port l).receiver = .assembling [kind] → len.toNat ≤ 48 →
        exec (.byteReceived l len true) s = .next (s.setPort l { s.port l with
          receiver := .assembling [kind, len], gap := .running 3 })) ∧
      (∀ (kind len b : Byte) (payload : List Byte), (s.port l).receiver = .assembling (kind :: len :: payload) →
        len.toNat ≤ 48 →
        (payload.length < len.toNat →
          exec (.byteReceived l b true) s = .next (s.setPort l { s.port l with
            receiver := .assembling (kind :: len :: (payload ++ [b])), gap := .running 3 })) ∧
        (payload.length = len.toNat → exec (.byteReceived l b true) s = .next (judged ⟨kind, payload⟩ b))) ∧
      (∀ bytes, (s.port l).receiver = .assembling bytes → (s.port l).gap.due = true →
        exec (.linkGapTimeout l) s = .next bad) ∧
      ((s.port l).receiver = .hunting ∨ (s.port l).gap.due = false → exec (.linkGapTimeout l) s = .next s) ∧
      ((s.port l).tx = [] → exec (.transmissionComplete l) s = .next (s.servePort l)) ∧
      (∀ p rest, (s.port l).tx = p :: rest →
        let left := s.setPort l { s.port l with tx := rest }
        let sent := l = .p ∧ p.kind = 0x21 ∧ s.queue.has .offered = true ∧ ∀ q ∈ rest, q.kind ≠ 0x21
        (¬ sent → exec (.transmissionComplete l) s = .next (left.servePort l)) ∧
        (sent → exec (.transmissionComplete l) s = .next (State.servePort l { left with
          session := { s.session with offerSent := true } })))) ∧
    ((s.port l).rx = [] → s.servePort l = s) ∧
    (∀ (p : Packet) (rest : List Packet) (c : Instr), s.time.domain = .run → (s.port l).rx = p :: rest →
      commandOf l p = some c →
      (MustWait l c s → s.servePort l = s) ∧
      (∀ t, ¬ MustWait l c s → exec c s = .next t →
        (t.port l).rx.length < (s.port l).rx.length ∧ s.servePort l = t.servePort l))
end

