-- ==== Sys2Proof/Laws/State.lean ====
section
/-! SUPPORT. What each shared operation does to each field of State: one lemma per field, for later proofs to cite
instead of unfolding an update. First the fields an operation leaves as they are, then the fields it sets. -/

namespace Sys2Proof.Machine

/-! ### Fields left as they are -/

@[simp] theorem count_time (s : State) (k : Counter) : (s.count k).time = s.time := rfl
@[simp] theorem count_sched (s : State) (k : Counter) : (s.count k).sched = s.sched := rfl
@[simp] theorem count_ramp (s : State) (k : Counter) : (s.count k).ramp = s.ramp := rfl
@[simp] theorem count_queue (s : State) (k : Counter) : (s.count k).queue = s.queue := rfl
@[simp] theorem count_retention (s : State) (k : Counter) : (s.count k).retention = s.retention := rfl
@[simp] theorem count_session (s : State) (k : Counter) : (s.count k).session = s.session := rfl
@[simp] theorem count_rails (s : State) (k : Counter) : (s.count k).rails = s.rails := rfl
@[simp] theorem count_meas (s : State) (k : Counter) : (s.count k).meas = s.meas := rfl
@[simp] theorem count_store (s : State) (k : Counter) : (s.count k).store = s.store := rfl
@[simp] theorem count_settings (s : State) (k : Counter) : (s.count k).settings = s.settings := rfl
@[simp] theorem count_flags (s : State) (k : Counter) : (s.count k).flags = s.flags := rfl
@[simp] theorem count_inputs (s : State) (k : Counter) : (s.count k).inputs = s.inputs := rfl
@[simp] theorem count_plink (s : State) (k : Counter) : (s.count k).plink = s.plink := rfl
@[simp] theorem count_slink (s : State) (k : Counter) : (s.count k).slink = s.slink := rfl
@[simp] theorem count_pins (s : State) (k : Counter) : (s.count k).pins = s.pins := rfl
@[simp] theorem count_pending (s : State) (k : Counter) : (s.count k).pending = s.pending := rfl

@[simp] theorem countMany_time (s : State) (k : Counter) (n : Nat) : (s.countMany k n).time = s.time := rfl
@[simp] theorem countMany_sched (s : State) (k : Counter) (n : Nat) : (s.countMany k n).sched = s.sched := rfl
@[simp] theorem countMany_ramp (s : State) (k : Counter) (n : Nat) : (s.countMany k n).ramp = s.ramp := rfl
@[simp] theorem countMany_queue (s : State) (k : Counter) (n : Nat) : (s.countMany k n).queue = s.queue := rfl
@[simp] theorem countMany_retention (s : State) (k : Counter) (n : Nat) : (s.countMany k n).retention = s.retention :=
  rfl
@[simp] theorem countMany_session (s : State) (k : Counter) (n : Nat) : (s.countMany k n).session = s.session :=
  rfl
@[simp] theorem countMany_rails (s : State) (k : Counter) (n : Nat) : (s.countMany k n).rails = s.rails := rfl
@[simp] theorem countMany_meas (s : State) (k : Counter) (n : Nat) : (s.countMany k n).meas = s.meas := rfl
@[simp] theorem countMany_store (s : State) (k : Counter) (n : Nat) : (s.countMany k n).store = s.store := rfl
@[simp] theorem countMany_settings (s : State) (k : Counter) (n : Nat) : (s.countMany k n).settings = s.settings :=
  rfl
@[simp] theorem countMany_flags (s : State) (k : Counter) (n : Nat) : (s.countMany k n).flags = s.flags := rfl
@[simp] theorem countMany_inputs (s : State) (k : Counter) (n : Nat) : (s.countMany k n).inputs = s.inputs :=
  rfl
@[simp] theorem countMany_plink (s : State) (k : Counter) (n : Nat) : (s.countMany k n).plink = s.plink := rfl
@[simp] theorem countMany_slink (s : State) (k : Counter) (n : Nat) : (s.countMany k n).slink = s.slink := rfl
@[simp] theorem countMany_pins (s : State) (k : Counter) (n : Nat) : (s.countMany k n).pins = s.pins := rfl
@[simp] theorem countMany_pending (s : State) (k : Counter) (n : Nat) : (s.countMany k n).pending = s.pending :=
  rfl

@[simp] theorem skip_time (s : State) (r : SkipReason) : (s.skip r).time = s.time := rfl
@[simp] theorem skip_sched (s : State) (r : SkipReason) : (s.skip r).sched = s.sched := rfl
@[simp] theorem skip_ramp (s : State) (r : SkipReason) : (s.skip r).ramp = s.ramp := rfl
@[simp] theorem skip_queue (s : State) (r : SkipReason) : (s.skip r).queue = s.queue := rfl
@[simp] theorem skip_retention (s : State) (r : SkipReason) : (s.skip r).retention = s.retention := rfl
@[simp] theorem skip_session (s : State) (r : SkipReason) : (s.skip r).session = s.session := rfl
@[simp] theorem skip_rails (s : State) (r : SkipReason) : (s.skip r).rails = s.rails := rfl
@[simp] theorem skip_meas (s : State) (r : SkipReason) : (s.skip r).meas = s.meas := rfl
@[simp] theorem skip_store (s : State) (r : SkipReason) : (s.skip r).store = s.store := rfl
@[simp] theorem skip_settings (s : State) (r : SkipReason) : (s.skip r).settings = s.settings := rfl
@[simp] theorem skip_flags (s : State) (r : SkipReason) : (s.skip r).flags = s.flags := rfl
@[simp] theorem skip_inputs (s : State) (r : SkipReason) : (s.skip r).inputs = s.inputs := rfl
@[simp] theorem skip_plink (s : State) (r : SkipReason) : (s.skip r).plink = s.plink := rfl
@[simp] theorem skip_slink (s : State) (r : SkipReason) : (s.skip r).slink = s.slink := rfl
@[simp] theorem skip_pins (s : State) (r : SkipReason) : (s.skip r).pins = s.pins := rfl
@[simp] theorem skip_pending (s : State) (r : SkipReason) : (s.skip r).pending = s.pending := rfl

@[simp] theorem flagSag_time (s : State) : (s.flagSag).time = s.time := rfl
@[simp] theorem flagSag_sched (s : State) : (s.flagSag).sched = s.sched := rfl
@[simp] theorem flagSag_ramp (s : State) : (s.flagSag).ramp = s.ramp := rfl
@[simp] theorem flagSag_queue (s : State) : (s.flagSag).queue = s.queue := rfl
@[simp] theorem flagSag_retention (s : State) : (s.flagSag).retention = s.retention := rfl
@[simp] theorem flagSag_session (s : State) : (s.flagSag).session = s.session := rfl
@[simp] theorem flagSag_rails (s : State) : (s.flagSag).rails = s.rails := rfl
@[simp] theorem flagSag_meas (s : State) : (s.flagSag).meas = s.meas := rfl
@[simp] theorem flagSag_store (s : State) : (s.flagSag).store = s.store := rfl
@[simp] theorem flagSag_settings (s : State) : (s.flagSag).settings = s.settings := rfl
@[simp] theorem flagSag_counters (s : State) : (s.flagSag).counters = s.counters := rfl
@[simp] theorem flagSag_inputs (s : State) : (s.flagSag).inputs = s.inputs := rfl
@[simp] theorem flagSag_plink (s : State) : (s.flagSag).plink = s.plink := rfl
@[simp] theorem flagSag_slink (s : State) : (s.flagSag).slink = s.slink := rfl
@[simp] theorem flagSag_pins (s : State) : (s.flagSag).pins = s.pins := rfl
@[simp] theorem flagSag_pending (s : State) : (s.flagSag).pending = s.pending := rfl

@[simp] theorem flagOfferTimeout_time (s : State) : (s.flagOfferTimeout).time = s.time := rfl
@[simp] theorem flagOfferTimeout_sched (s : State) : (s.flagOfferTimeout).sched = s.sched := rfl
@[simp] theorem flagOfferTimeout_ramp (s : State) : (s.flagOfferTimeout).ramp = s.ramp := rfl
@[simp] theorem flagOfferTimeout_queue (s : State) : (s.flagOfferTimeout).queue = s.queue := rfl
@[simp] theorem flagOfferTimeout_retention (s : State) : (s.flagOfferTimeout).retention = s.retention := rfl
@[simp] theorem flagOfferTimeout_session (s : State) : (s.flagOfferTimeout).session = s.session := rfl
@[simp] theorem flagOfferTimeout_rails (s : State) : (s.flagOfferTimeout).rails = s.rails := rfl
@[simp] theorem flagOfferTimeout_meas (s : State) : (s.flagOfferTimeout).meas = s.meas := rfl
@[simp] theorem flagOfferTimeout_store (s : State) : (s.flagOfferTimeout).store = s.store := rfl
@[simp] theorem flagOfferTimeout_settings (s : State) : (s.flagOfferTimeout).settings = s.settings := rfl
@[simp] theorem flagOfferTimeout_counters (s : State) : (s.flagOfferTimeout).counters = s.counters := rfl
@[simp] theorem flagOfferTimeout_inputs (s : State) : (s.flagOfferTimeout).inputs = s.inputs := rfl
@[simp] theorem flagOfferTimeout_plink (s : State) : (s.flagOfferTimeout).plink = s.plink := rfl
@[simp] theorem flagOfferTimeout_slink (s : State) : (s.flagOfferTimeout).slink = s.slink := rfl
@[simp] theorem flagOfferTimeout_pins (s : State) : (s.flagOfferTimeout).pins = s.pins := rfl
@[simp] theorem flagOfferTimeout_pending (s : State) : (s.flagOfferTimeout).pending = s.pending := rfl

@[simp] theorem flagForcedSleep_time (s : State) : (s.flagForcedSleep).time = s.time := rfl
@[simp] theorem flagForcedSleep_sched (s : State) : (s.flagForcedSleep).sched = s.sched := rfl
@[simp] theorem flagForcedSleep_ramp (s : State) : (s.flagForcedSleep).ramp = s.ramp := rfl
@[simp] theorem flagForcedSleep_queue (s : State) : (s.flagForcedSleep).queue = s.queue := rfl
@[simp] theorem flagForcedSleep_retention (s : State) : (s.flagForcedSleep).retention = s.retention := rfl
@[simp] theorem flagForcedSleep_session (s : State) : (s.flagForcedSleep).session = s.session := rfl
@[simp] theorem flagForcedSleep_rails (s : State) : (s.flagForcedSleep).rails = s.rails := rfl
@[simp] theorem flagForcedSleep_meas (s : State) : (s.flagForcedSleep).meas = s.meas := rfl
@[simp] theorem flagForcedSleep_store (s : State) : (s.flagForcedSleep).store = s.store := rfl
@[simp] theorem flagForcedSleep_settings (s : State) : (s.flagForcedSleep).settings = s.settings := rfl
@[simp] theorem flagForcedSleep_counters (s : State) : (s.flagForcedSleep).counters = s.counters := rfl
@[simp] theorem flagForcedSleep_inputs (s : State) : (s.flagForcedSleep).inputs = s.inputs := rfl
@[simp] theorem flagForcedSleep_plink (s : State) : (s.flagForcedSleep).plink = s.plink := rfl
@[simp] theorem flagForcedSleep_slink (s : State) : (s.flagForcedSleep).slink = s.slink := rfl
@[simp] theorem flagForcedSleep_pins (s : State) : (s.flagForcedSleep).pins = s.pins := rfl
@[simp] theorem flagForcedSleep_pending (s : State) : (s.flagForcedSleep).pending = s.pending := rfl

@[simp] theorem flagNoShow_time (s : State) : (s.flagNoShow).time = s.time := rfl
@[simp] theorem flagNoShow_sched (s : State) : (s.flagNoShow).sched = s.sched := rfl
@[simp] theorem flagNoShow_ramp (s : State) : (s.flagNoShow).ramp = s.ramp := rfl
@[simp] theorem flagNoShow_queue (s : State) : (s.flagNoShow).queue = s.queue := rfl
@[simp] theorem flagNoShow_retention (s : State) : (s.flagNoShow).retention = s.retention := rfl
@[simp] theorem flagNoShow_session (s : State) : (s.flagNoShow).session = s.session := rfl
@[simp] theorem flagNoShow_rails (s : State) : (s.flagNoShow).rails = s.rails := rfl
@[simp] theorem flagNoShow_meas (s : State) : (s.flagNoShow).meas = s.meas := rfl
@[simp] theorem flagNoShow_store (s : State) : (s.flagNoShow).store = s.store := rfl
@[simp] theorem flagNoShow_settings (s : State) : (s.flagNoShow).settings = s.settings := rfl
@[simp] theorem flagNoShow_counters (s : State) : (s.flagNoShow).counters = s.counters := rfl
@[simp] theorem flagNoShow_inputs (s : State) : (s.flagNoShow).inputs = s.inputs := rfl
@[simp] theorem flagNoShow_plink (s : State) : (s.flagNoShow).plink = s.plink := rfl
@[simp] theorem flagNoShow_slink (s : State) : (s.flagNoShow).slink = s.slink := rfl
@[simp] theorem flagNoShow_pins (s : State) : (s.flagNoShow).pins = s.pins := rfl
@[simp] theorem flagNoShow_pending (s : State) : (s.flagNoShow).pending = s.pending := rfl

@[simp] theorem flagModuleRestart_time (s : State) : (s.flagModuleRestart).time = s.time := rfl
@[simp] theorem flagModuleRestart_sched (s : State) : (s.flagModuleRestart).sched = s.sched := rfl
@[simp] theorem flagModuleRestart_ramp (s : State) : (s.flagModuleRestart).ramp = s.ramp := rfl
@[simp] theorem flagModuleRestart_queue (s : State) : (s.flagModuleRestart).queue = s.queue := rfl
@[simp] theorem flagModuleRestart_retention (s : State) : (s.flagModuleRestart).retention = s.retention := rfl
@[simp] theorem flagModuleRestart_session (s : State) : (s.flagModuleRestart).session = s.session := rfl
@[simp] theorem flagModuleRestart_rails (s : State) : (s.flagModuleRestart).rails = s.rails := rfl
@[simp] theorem flagModuleRestart_meas (s : State) : (s.flagModuleRestart).meas = s.meas := rfl
@[simp] theorem flagModuleRestart_store (s : State) : (s.flagModuleRestart).store = s.store := rfl
@[simp] theorem flagModuleRestart_settings (s : State) : (s.flagModuleRestart).settings = s.settings := rfl
@[simp] theorem flagModuleRestart_counters (s : State) : (s.flagModuleRestart).counters = s.counters := rfl
@[simp] theorem flagModuleRestart_inputs (s : State) : (s.flagModuleRestart).inputs = s.inputs := rfl
@[simp] theorem flagModuleRestart_plink (s : State) : (s.flagModuleRestart).plink = s.plink := rfl
@[simp] theorem flagModuleRestart_slink (s : State) : (s.flagModuleRestart).slink = s.slink := rfl
@[simp] theorem flagModuleRestart_pins (s : State) : (s.flagModuleRestart).pins = s.pins := rfl
@[simp] theorem flagModuleRestart_pending (s : State) : (s.flagModuleRestart).pending = s.pending := rfl

@[simp] theorem flagBadPacket_time (s : State) : (s.flagBadPacket).time = s.time := rfl
@[simp] theorem flagBadPacket_sched (s : State) : (s.flagBadPacket).sched = s.sched := rfl
@[simp] theorem flagBadPacket_ramp (s : State) : (s.flagBadPacket).ramp = s.ramp := rfl
@[simp] theorem flagBadPacket_queue (s : State) : (s.flagBadPacket).queue = s.queue := rfl
@[simp] theorem flagBadPacket_retention (s : State) : (s.flagBadPacket).retention = s.retention := rfl
@[simp] theorem flagBadPacket_session (s : State) : (s.flagBadPacket).session = s.session := rfl
@[simp] theorem flagBadPacket_rails (s : State) : (s.flagBadPacket).rails = s.rails := rfl
@[simp] theorem flagBadPacket_meas (s : State) : (s.flagBadPacket).meas = s.meas := rfl
@[simp] theorem flagBadPacket_store (s : State) : (s.flagBadPacket).store = s.store := rfl
@[simp] theorem flagBadPacket_settings (s : State) : (s.flagBadPacket).settings = s.settings := rfl
@[simp] theorem flagBadPacket_counters (s : State) : (s.flagBadPacket).counters = s.counters := rfl
@[simp] theorem flagBadPacket_inputs (s : State) : (s.flagBadPacket).inputs = s.inputs := rfl
@[simp] theorem flagBadPacket_plink (s : State) : (s.flagBadPacket).plink = s.plink := rfl
@[simp] theorem flagBadPacket_slink (s : State) : (s.flagBadPacket).slink = s.slink := rfl
@[simp] theorem flagBadPacket_pins (s : State) : (s.flagBadPacket).pins = s.pins := rfl
@[simp] theorem flagBadPacket_pending (s : State) : (s.flagBadPacket).pending = s.pending := rfl

@[simp] theorem setPort_time (s : State) (l : Link) (x : Port) : (s.setPort l x).time = s.time :=
  by unfold State.setPort; split <;> simp
@[simp] theorem setPort_sched (s : State) (l : Link) (x : Port) : (s.setPort l x).sched = s.sched :=
  by unfold State.setPort; split <;> simp
@[simp] theorem setPort_ramp (s : State) (l : Link) (x : Port) : (s.setPort l x).ramp = s.ramp :=
  by unfold State.setPort; split <;> simp
@[simp] theorem setPort_queue (s : State) (l : Link) (x : Port) : (s.setPort l x).queue = s.queue :=
  by unfold State.setPort; split <;> simp
@[simp] theorem setPort_retention (s : State) (l : Link) (x : Port) : (s.setPort l x).retention = s.retention :=
  by unfold State.setPort; split <;> simp
@[simp] theorem setPort_session (s : State) (l : Link) (x : Port) : (s.setPort l x).session = s.session :=
  by unfold State.setPort; split <;> simp
@[simp] theorem setPort_rails (s : State) (l : Link) (x : Port) : (s.setPort l x).rails = s.rails :=
  by unfold State.setPort; split <;> simp
@[simp] theorem setPort_meas (s : State) (l : Link) (x : Port) : (s.setPort l x).meas = s.meas :=
  by unfold State.setPort; split <;> simp
@[simp] theorem setPort_store (s : State) (l : Link) (x : Port) : (s.setPort l x).store = s.store :=
  by unfold State.setPort; split <;> simp
@[simp] theorem setPort_settings (s : State) (l : Link) (x : Port) : (s.setPort l x).settings = s.settings :=
  by unfold State.setPort; split <;> simp
@[simp] theorem setPort_counters (s : State) (l : Link) (x : Port) : (s.setPort l x).counters = s.counters :=
  by unfold State.setPort; split <;> simp
@[simp] theorem setPort_flags (s : State) (l : Link) (x : Port) : (s.setPort l x).flags = s.flags :=
  by unfold State.setPort; split <;> simp
@[simp] theorem setPort_inputs (s : State) (l : Link) (x : Port) : (s.setPort l x).inputs = s.inputs :=
  by unfold State.setPort; split <;> simp
@[simp] theorem setPort_pins (s : State) (l : Link) (x : Port) : (s.setPort l x).pins = s.pins :=
  by unfold State.setPort; split <;> simp
@[simp] theorem setPort_pending (s : State) (l : Link) (x : Port) : (s.setPort l x).pending = s.pending :=
  by unfold State.setPort; split <;> simp

@[simp] theorem sendP_time (s : State) (p : Packet) : (s.sendP p).time = s.time := rfl
@[simp] theorem sendP_sched (s : State) (p : Packet) : (s.sendP p).sched = s.sched := rfl
@[simp] theorem sendP_ramp (s : State) (p : Packet) : (s.sendP p).ramp = s.ramp := rfl
@[simp] theorem sendP_queue (s : State) (p : Packet) : (s.sendP p).queue = s.queue := rfl
@[simp] theorem sendP_retention (s : State) (p : Packet) : (s.sendP p).retention = s.retention := rfl
@[simp] theorem sendP_session (s : State) (p : Packet) : (s.sendP p).session = s.session := rfl
@[simp] theorem sendP_rails (s : State) (p : Packet) : (s.sendP p).rails = s.rails := rfl
@[simp] theorem sendP_meas (s : State) (p : Packet) : (s.sendP p).meas = s.meas := rfl
@[simp] theorem sendP_store (s : State) (p : Packet) : (s.sendP p).store = s.store := rfl
@[simp] theorem sendP_settings (s : State) (p : Packet) : (s.sendP p).settings = s.settings := rfl
@[simp] theorem sendP_counters (s : State) (p : Packet) : (s.sendP p).counters = s.counters := rfl
@[simp] theorem sendP_flags (s : State) (p : Packet) : (s.sendP p).flags = s.flags := rfl
@[simp] theorem sendP_inputs (s : State) (p : Packet) : (s.sendP p).inputs = s.inputs := rfl
@[simp] theorem sendP_slink (s : State) (p : Packet) : (s.sendP p).slink = s.slink := rfl
@[simp] theorem sendP_pins (s : State) (p : Packet) : (s.sendP p).pins = s.pins := rfl
@[simp] theorem sendP_pending (s : State) (p : Packet) : (s.sendP p).pending = s.pending := rfl

@[simp] theorem sendAllP_time (s : State) (ps : List Packet) : (s.sendAllP ps).time = s.time := rfl
@[simp] theorem sendAllP_sched (s : State) (ps : List Packet) : (s.sendAllP ps).sched = s.sched := rfl
@[simp] theorem sendAllP_ramp (s : State) (ps : List Packet) : (s.sendAllP ps).ramp = s.ramp := rfl
@[simp] theorem sendAllP_queue (s : State) (ps : List Packet) : (s.sendAllP ps).queue = s.queue := rfl
@[simp] theorem sendAllP_retention (s : State) (ps : List Packet) : (s.sendAllP ps).retention = s.retention :=
  rfl
@[simp] theorem sendAllP_session (s : State) (ps : List Packet) : (s.sendAllP ps).session = s.session := rfl
@[simp] theorem sendAllP_rails (s : State) (ps : List Packet) : (s.sendAllP ps).rails = s.rails := rfl
@[simp] theorem sendAllP_meas (s : State) (ps : List Packet) : (s.sendAllP ps).meas = s.meas := rfl
@[simp] theorem sendAllP_store (s : State) (ps : List Packet) : (s.sendAllP ps).store = s.store := rfl
@[simp] theorem sendAllP_settings (s : State) (ps : List Packet) : (s.sendAllP ps).settings = s.settings := rfl
@[simp] theorem sendAllP_counters (s : State) (ps : List Packet) : (s.sendAllP ps).counters = s.counters := rfl
@[simp] theorem sendAllP_flags (s : State) (ps : List Packet) : (s.sendAllP ps).flags = s.flags := rfl
@[simp] theorem sendAllP_inputs (s : State) (ps : List Packet) : (s.sendAllP ps).inputs = s.inputs := rfl
@[simp] theorem sendAllP_slink (s : State) (ps : List Packet) : (s.sendAllP ps).slink = s.slink := rfl
@[simp] theorem sendAllP_pins (s : State) (ps : List Packet) : (s.sendAllP ps).pins = s.pins := rfl
@[simp] theorem sendAllP_pending (s : State) (ps : List Packet) : (s.sendAllP ps).pending = s.pending := rfl

@[simp] theorem sendS_time (s : State) (p : Packet) : (s.sendS p).time = s.time := rfl
@[simp] theorem sendS_sched (s : State) (p : Packet) : (s.sendS p).sched = s.sched := rfl
@[simp] theorem sendS_ramp (s : State) (p : Packet) : (s.sendS p).ramp = s.ramp := rfl
@[simp] theorem sendS_queue (s : State) (p : Packet) : (s.sendS p).queue = s.queue := rfl
@[simp] theorem sendS_retention (s : State) (p : Packet) : (s.sendS p).retention = s.retention := rfl
@[simp] theorem sendS_session (s : State) (p : Packet) : (s.sendS p).session = s.session := rfl
@[simp] theorem sendS_rails (s : State) (p : Packet) : (s.sendS p).rails = s.rails := rfl
@[simp] theorem sendS_meas (s : State) (p : Packet) : (s.sendS p).meas = s.meas := rfl
@[simp] theorem sendS_store (s : State) (p : Packet) : (s.sendS p).store = s.store := rfl
@[simp] theorem sendS_settings (s : State) (p : Packet) : (s.sendS p).settings = s.settings := rfl
@[simp] theorem sendS_counters (s : State) (p : Packet) : (s.sendS p).counters = s.counters := rfl
@[simp] theorem sendS_flags (s : State) (p : Packet) : (s.sendS p).flags = s.flags := rfl
@[simp] theorem sendS_inputs (s : State) (p : Packet) : (s.sendS p).inputs = s.inputs := rfl
@[simp] theorem sendS_plink (s : State) (p : Packet) : (s.sendS p).plink = s.plink := rfl
@[simp] theorem sendS_pins (s : State) (p : Packet) : (s.sendS p).pins = s.pins := rfl
@[simp] theorem sendS_pending (s : State) (p : Packet) : (s.sendS p).pending = s.pending := rfl

@[simp] theorem answer_time (s : State) (k : Byte) (r : AnswerCode) : (s.answer k r).time = s.time := rfl
@[simp] theorem answer_sched (s : State) (k : Byte) (r : AnswerCode) : (s.answer k r).sched = s.sched := rfl
@[simp] theorem answer_ramp (s : State) (k : Byte) (r : AnswerCode) : (s.answer k r).ramp = s.ramp := rfl
@[simp] theorem answer_queue (s : State) (k : Byte) (r : AnswerCode) : (s.answer k r).queue = s.queue := rfl
@[simp] theorem answer_retention (s : State) (k : Byte) (r : AnswerCode) : (s.answer k r).retention = s.retention :=
  rfl
@[simp] theorem answer_session (s : State) (k : Byte) (r : AnswerCode) : (s.answer k r).session = s.session :=
  rfl
@[simp] theorem answer_rails (s : State) (k : Byte) (r : AnswerCode) : (s.answer k r).rails = s.rails := rfl
@[simp] theorem answer_meas (s : State) (k : Byte) (r : AnswerCode) : (s.answer k r).meas = s.meas := rfl
@[simp] theorem answer_store (s : State) (k : Byte) (r : AnswerCode) : (s.answer k r).store = s.store := rfl
@[simp] theorem answer_settings (s : State) (k : Byte) (r : AnswerCode) : (s.answer k r).settings = s.settings :=
  rfl
@[simp] theorem answer_counters (s : State) (k : Byte) (r : AnswerCode) : (s.answer k r).counters = s.counters :=
  rfl
@[simp] theorem answer_flags (s : State) (k : Byte) (r : AnswerCode) : (s.answer k r).flags = s.flags := rfl
@[simp] theorem answer_inputs (s : State) (k : Byte) (r : AnswerCode) : (s.answer k r).inputs = s.inputs := rfl
@[simp] theorem answer_slink (s : State) (k : Byte) (r : AnswerCode) : (s.answer k r).slink = s.slink := rfl
@[simp] theorem answer_pins (s : State) (k : Byte) (r : AnswerCode) : (s.answer k r).pins = s.pins := rfl
@[simp] theorem answer_pending (s : State) (k : Byte) (r : AnswerCode) : (s.answer k r).pending = s.pending :=
  rfl

@[simp] theorem answerTag_time (s : State) (k : Byte) (r : AnswerCode) (tag : Byte) : (s.answerTag k r tag).time = s.time :=
  rfl
@[simp] theorem answerTag_sched (s : State) (k : Byte) (r : AnswerCode) (tag : Byte) : (s.answerTag k r tag).sched = s.sched :=
  rfl
@[simp] theorem answerTag_ramp (s : State) (k : Byte) (r : AnswerCode) (tag : Byte) : (s.answerTag k r tag).ramp = s.ramp :=
  rfl
@[simp] theorem answerTag_queue (s : State) (k : Byte) (r : AnswerCode) (tag : Byte) : (s.answerTag k r tag).queue = s.queue :=
  rfl
@[simp] theorem answerTag_retention (s : State) (k : Byte) (r : AnswerCode) (tag : Byte) : (s.answerTag k r tag).retention = s.retention :=
  rfl
@[simp] theorem answerTag_session (s : State) (k : Byte) (r : AnswerCode) (tag : Byte) : (s.answerTag k r tag).session = s.session :=
  rfl
@[simp] theorem answerTag_rails (s : State) (k : Byte) (r : AnswerCode) (tag : Byte) : (s.answerTag k r tag).rails = s.rails :=
  rfl
@[simp] theorem answerTag_meas (s : State) (k : Byte) (r : AnswerCode) (tag : Byte) : (s.answerTag k r tag).meas = s.meas :=
  rfl
@[simp] theorem answerTag_store (s : State) (k : Byte) (r : AnswerCode) (tag : Byte) : (s.answerTag k r tag).store = s.store :=
  rfl
@[simp] theorem answerTag_settings (s : State) (k : Byte) (r : AnswerCode) (tag : Byte) : (s.answerTag k r tag).settings = s.settings :=
  rfl
@[simp] theorem answerTag_counters (s : State) (k : Byte) (r : AnswerCode) (tag : Byte) : (s.answerTag k r tag).counters = s.counters :=
  rfl
@[simp] theorem answerTag_flags (s : State) (k : Byte) (r : AnswerCode) (tag : Byte) : (s.answerTag k r tag).flags = s.flags :=
  rfl
@[simp] theorem answerTag_inputs (s : State) (k : Byte) (r : AnswerCode) (tag : Byte) : (s.answerTag k r tag).inputs = s.inputs :=
  rfl
@[simp] theorem answerTag_slink (s : State) (k : Byte) (r : AnswerCode) (tag : Byte) : (s.answerTag k r tag).slink = s.slink :=
  rfl
@[simp] theorem answerTag_pins (s : State) (k : Byte) (r : AnswerCode) (tag : Byte) : (s.answerTag k r tag).pins = s.pins :=
  rfl
@[simp] theorem answerTag_pending (s : State) (k : Byte) (r : AnswerCode) (tag : Byte) : (s.answerTag k r tag).pending = s.pending :=
  rfl

@[simp] theorem arrive_time (s : State) (l : Link) (p : Packet) : (s.arrive l p).time = s.time :=
  by unfold State.arrive; split <;> simp
@[simp] theorem arrive_sched (s : State) (l : Link) (p : Packet) : (s.arrive l p).sched = s.sched :=
  by unfold State.arrive; split <;> simp
@[simp] theorem arrive_ramp (s : State) (l : Link) (p : Packet) : (s.arrive l p).ramp = s.ramp :=
  by unfold State.arrive; split <;> simp
@[simp] theorem arrive_queue (s : State) (l : Link) (p : Packet) : (s.arrive l p).queue = s.queue :=
  by unfold State.arrive; split <;> simp
@[simp] theorem arrive_retention (s : State) (l : Link) (p : Packet) : (s.arrive l p).retention = s.retention :=
  by unfold State.arrive; split <;> simp
@[simp] theorem arrive_session (s : State) (l : Link) (p : Packet) : (s.arrive l p).session = s.session :=
  by unfold State.arrive; split <;> simp
@[simp] theorem arrive_rails (s : State) (l : Link) (p : Packet) : (s.arrive l p).rails = s.rails :=
  by unfold State.arrive; split <;> simp
@[simp] theorem arrive_meas (s : State) (l : Link) (p : Packet) : (s.arrive l p).meas = s.meas :=
  by unfold State.arrive; split <;> simp
@[simp] theorem arrive_store (s : State) (l : Link) (p : Packet) : (s.arrive l p).store = s.store :=
  by unfold State.arrive; split <;> simp
@[simp] theorem arrive_settings (s : State) (l : Link) (p : Packet) : (s.arrive l p).settings = s.settings :=
  by unfold State.arrive; split <;> simp
@[simp] theorem arrive_flags (s : State) (l : Link) (p : Packet) : (s.arrive l p).flags = s.flags :=
  by unfold State.arrive; split <;> simp
@[simp] theorem arrive_inputs (s : State) (l : Link) (p : Packet) : (s.arrive l p).inputs = s.inputs :=
  by unfold State.arrive; split <;> simp
@[simp] theorem arrive_pins (s : State) (l : Link) (p : Packet) : (s.arrive l p).pins = s.pins :=
  by unfold State.arrive; split <;> simp
@[simp] theorem arrive_pending (s : State) (l : Link) (p : Packet) : (s.arrive l p).pending = s.pending :=
  by unfold State.arrive; split <;> simp

@[simp] theorem raiseFailures_time (s : State) : (s.raiseFailures).time = s.time := rfl
@[simp] theorem raiseFailures_sched (s : State) : (s.raiseFailures).sched = s.sched := rfl
@[simp] theorem raiseFailures_ramp (s : State) : (s.raiseFailures).ramp = s.ramp := rfl
@[simp] theorem raiseFailures_retention (s : State) : (s.raiseFailures).retention = s.retention := rfl
@[simp] theorem raiseFailures_session (s : State) : (s.raiseFailures).session = s.session := rfl
@[simp] theorem raiseFailures_meas (s : State) : (s.raiseFailures).meas = s.meas := rfl
@[simp] theorem raiseFailures_store (s : State) : (s.raiseFailures).store = s.store := rfl
@[simp] theorem raiseFailures_settings (s : State) : (s.raiseFailures).settings = s.settings := rfl
@[simp] theorem raiseFailures_counters (s : State) : (s.raiseFailures).counters = s.counters := rfl
@[simp] theorem raiseFailures_flags (s : State) : (s.raiseFailures).flags = s.flags := rfl
@[simp] theorem raiseFailures_inputs (s : State) : (s.raiseFailures).inputs = s.inputs := rfl
@[simp] theorem raiseFailures_plink (s : State) : (s.raiseFailures).plink = s.plink := rfl
@[simp] theorem raiseFailures_slink (s : State) : (s.raiseFailures).slink = s.slink := rfl
@[simp] theorem raiseFailures_pins (s : State) : (s.raiseFailures).pins = s.pins := rfl
@[simp] theorem raiseFailures_pending (s : State) : (s.raiseFailures).pending = s.pending := rfl

@[simp] theorem flush_time (s : State) : (s.flush).time = s.time := rfl
@[simp] theorem flush_sched (s : State) : (s.flush).sched = s.sched := rfl
@[simp] theorem flush_ramp (s : State) : (s.flush).ramp = s.ramp := rfl
@[simp] theorem flush_retention (s : State) : (s.flush).retention = s.retention := rfl
@[simp] theorem flush_session (s : State) : (s.flush).session = s.session := rfl
@[simp] theorem flush_rails (s : State) : (s.flush).rails = s.rails := rfl
@[simp] theorem flush_meas (s : State) : (s.flush).meas = s.meas := rfl
@[simp] theorem flush_store (s : State) : (s.flush).store = s.store := rfl
@[simp] theorem flush_settings (s : State) : (s.flush).settings = s.settings := rfl
@[simp] theorem flush_flags (s : State) : (s.flush).flags = s.flags := rfl
@[simp] theorem flush_inputs (s : State) : (s.flush).inputs = s.inputs := rfl
@[simp] theorem flush_plink (s : State) : (s.flush).plink = s.plink := rfl
@[simp] theorem flush_slink (s : State) : (s.flush).slink = s.slink := rfl
@[simp] theorem flush_pins (s : State) : (s.flush).pins = s.pins := rfl
@[simp] theorem flush_pending (s : State) : (s.flush).pending = s.pending := rfl

@[simp] theorem endPending_time (s : State) (why : SkipReason) : (s.endPending why).time = s.time :=
  by unfold State.endPending; split <;> simp
@[simp] theorem endPending_ramp (s : State) (why : SkipReason) : (s.endPending why).ramp = s.ramp :=
  by unfold State.endPending; split <;> simp
@[simp] theorem endPending_queue (s : State) (why : SkipReason) : (s.endPending why).queue = s.queue :=
  by unfold State.endPending; split <;> simp
@[simp] theorem endPending_retention (s : State) (why : SkipReason) : (s.endPending why).retention = s.retention :=
  by unfold State.endPending; split <;> simp
@[simp] theorem endPending_session (s : State) (why : SkipReason) : (s.endPending why).session = s.session :=
  by unfold State.endPending; split <;> simp
@[simp] theorem endPending_rails (s : State) (why : SkipReason) : (s.endPending why).rails = s.rails :=
  by unfold State.endPending; split <;> simp
@[simp] theorem endPending_meas (s : State) (why : SkipReason) : (s.endPending why).meas = s.meas :=
  by unfold State.endPending; split <;> simp
@[simp] theorem endPending_store (s : State) (why : SkipReason) : (s.endPending why).store = s.store :=
  by unfold State.endPending; split <;> simp
@[simp] theorem endPending_settings (s : State) (why : SkipReason) : (s.endPending why).settings = s.settings :=
  by unfold State.endPending; split <;> simp
@[simp] theorem endPending_flags (s : State) (why : SkipReason) : (s.endPending why).flags = s.flags :=
  by unfold State.endPending; split <;> simp
@[simp] theorem endPending_inputs (s : State) (why : SkipReason) : (s.endPending why).inputs = s.inputs :=
  by unfold State.endPending; split <;> simp
@[simp] theorem endPending_plink (s : State) (why : SkipReason) : (s.endPending why).plink = s.plink :=
  by unfold State.endPending; split <;> simp
@[simp] theorem endPending_slink (s : State) (why : SkipReason) : (s.endPending why).slink = s.slink :=
  by unfold State.endPending; split <;> simp
@[simp] theorem endPending_pins (s : State) (why : SkipReason) : (s.endPending why).pins = s.pins :=
  by unfold State.endPending; split <;> simp
@[simp] theorem endPending_pending (s : State) (why : SkipReason) : (s.endPending why).pending = s.pending :=
  by unfold State.endPending; split <;> simp

@[simp] theorem refreshDemand_time (s : State) : (s.refreshDemand).time = s.time := rfl
@[simp] theorem refreshDemand_sched (s : State) : (s.refreshDemand).sched = s.sched := rfl
@[simp] theorem refreshDemand_ramp (s : State) : (s.refreshDemand).ramp = s.ramp := rfl
@[simp] theorem refreshDemand_queue (s : State) : (s.refreshDemand).queue = s.queue := rfl
@[simp] theorem refreshDemand_retention (s : State) : (s.refreshDemand).retention = s.retention := rfl
@[simp] theorem refreshDemand_session (s : State) : (s.refreshDemand).session = s.session := rfl
@[simp] theorem refreshDemand_meas (s : State) : (s.refreshDemand).meas = s.meas := rfl
@[simp] theorem refreshDemand_store (s : State) : (s.refreshDemand).store = s.store := rfl
@[simp] theorem refreshDemand_settings (s : State) : (s.refreshDemand).settings = s.settings := rfl
@[simp] theorem refreshDemand_counters (s : State) : (s.refreshDemand).counters = s.counters := rfl
@[simp] theorem refreshDemand_flags (s : State) : (s.refreshDemand).flags = s.flags := rfl
@[simp] theorem refreshDemand_inputs (s : State) : (s.refreshDemand).inputs = s.inputs := rfl
@[simp] theorem refreshDemand_plink (s : State) : (s.refreshDemand).plink = s.plink := rfl
@[simp] theorem refreshDemand_slink (s : State) : (s.refreshDemand).slink = s.slink := rfl
@[simp] theorem refreshDemand_pins (s : State) : (s.refreshDemand).pins = s.pins := rfl
@[simp] theorem refreshDemand_pending (s : State) : (s.refreshDemand).pending = s.pending := rfl

@[simp] theorem captureOff_time (s : State) (why : SkipReason) : (s.captureOff why).time = s.time :=
  by unfold State.captureOff; simp
@[simp] theorem captureOff_ramp (s : State) (why : SkipReason) : (s.captureOff why).ramp = s.ramp :=
  by unfold State.captureOff; simp
@[simp] theorem captureOff_retention (s : State) (why : SkipReason) : (s.captureOff why).retention = s.retention :=
  by unfold State.captureOff; simp
@[simp] theorem captureOff_session (s : State) (why : SkipReason) : (s.captureOff why).session = s.session :=
  by unfold State.captureOff; simp
@[simp] theorem captureOff_meas (s : State) (why : SkipReason) : (s.captureOff why).meas = s.meas :=
  by unfold State.captureOff; simp
@[simp] theorem captureOff_store (s : State) (why : SkipReason) : (s.captureOff why).store = s.store :=
  by unfold State.captureOff; simp
@[simp] theorem captureOff_settings (s : State) (why : SkipReason) : (s.captureOff why).settings = s.settings :=
  by unfold State.captureOff; simp
@[simp] theorem captureOff_flags (s : State) (why : SkipReason) : (s.captureOff why).flags = s.flags :=
  by unfold State.captureOff; simp
@[simp] theorem captureOff_inputs (s : State) (why : SkipReason) : (s.captureOff why).inputs = s.inputs :=
  by unfold State.captureOff; simp
@[simp] theorem captureOff_plink (s : State) (why : SkipReason) : (s.captureOff why).plink = s.plink :=
  by unfold State.captureOff; simp
@[simp] theorem captureOff_pins (s : State) (why : SkipReason) : (s.captureOff why).pins = s.pins :=
  by unfold State.captureOff; simp
@[simp] theorem captureOff_pending (s : State) (why : SkipReason) : (s.captureOff why).pending = s.pending :=
  by unfold State.captureOff; simp

@[simp] theorem captureOn_time (s : State) : (s.captureOn).time = s.time := rfl
@[simp] theorem captureOn_sched (s : State) : (s.captureOn).sched = s.sched := rfl
@[simp] theorem captureOn_ramp (s : State) : (s.captureOn).ramp = s.ramp := rfl
@[simp] theorem captureOn_retention (s : State) : (s.captureOn).retention = s.retention := rfl
@[simp] theorem captureOn_session (s : State) : (s.captureOn).session = s.session := rfl
@[simp] theorem captureOn_meas (s : State) : (s.captureOn).meas = s.meas := rfl
@[simp] theorem captureOn_store (s : State) : (s.captureOn).store = s.store := rfl
@[simp] theorem captureOn_settings (s : State) : (s.captureOn).settings = s.settings := rfl
@[simp] theorem captureOn_counters (s : State) : (s.captureOn).counters = s.counters := rfl
@[simp] theorem captureOn_flags (s : State) : (s.captureOn).flags = s.flags := rfl
@[simp] theorem captureOn_inputs (s : State) : (s.captureOn).inputs = s.inputs := rfl
@[simp] theorem captureOn_plink (s : State) : (s.captureOn).plink = s.plink := rfl
@[simp] theorem captureOn_slink (s : State) : (s.captureOn).slink = s.slink := rfl
@[simp] theorem captureOn_pins (s : State) : (s.captureOn).pins = s.pins := rfl
@[simp] theorem captureOn_pending (s : State) : (s.captureOn).pending = s.pending := rfl

@[simp] theorem driveCapture_time (s : State) (why : SkipReason) : (s.driveCapture why).time = s.time :=
  by unfold State.driveCapture; (repeat' split) <;> simp
@[simp] theorem driveCapture_ramp (s : State) (why : SkipReason) : (s.driveCapture why).ramp = s.ramp :=
  by unfold State.driveCapture; (repeat' split) <;> simp
@[simp] theorem driveCapture_retention (s : State) (why : SkipReason) : (s.driveCapture why).retention = s.retention :=
  by unfold State.driveCapture; (repeat' split) <;> simp
@[simp] theorem driveCapture_session (s : State) (why : SkipReason) : (s.driveCapture why).session = s.session :=
  by unfold State.driveCapture; (repeat' split) <;> simp
@[simp] theorem driveCapture_meas (s : State) (why : SkipReason) : (s.driveCapture why).meas = s.meas :=
  by unfold State.driveCapture; (repeat' split) <;> simp
@[simp] theorem driveCapture_store (s : State) (why : SkipReason) : (s.driveCapture why).store = s.store :=
  by unfold State.driveCapture; (repeat' split) <;> simp
@[simp] theorem driveCapture_settings (s : State) (why : SkipReason) : (s.driveCapture why).settings = s.settings :=
  by unfold State.driveCapture; (repeat' split) <;> simp
@[simp] theorem driveCapture_flags (s : State) (why : SkipReason) : (s.driveCapture why).flags = s.flags :=
  by unfold State.driveCapture; (repeat' split) <;> simp
@[simp] theorem driveCapture_inputs (s : State) (why : SkipReason) : (s.driveCapture why).inputs = s.inputs :=
  by unfold State.driveCapture; (repeat' split) <;> simp
@[simp] theorem driveCapture_plink (s : State) (why : SkipReason) : (s.driveCapture why).plink = s.plink :=
  by unfold State.driveCapture; (repeat' split) <;> simp
@[simp] theorem driveCapture_pins (s : State) (why : SkipReason) : (s.driveCapture why).pins = s.pins :=
  by unfold State.driveCapture; (repeat' split) <;> simp
@[simp] theorem driveCapture_pending (s : State) (why : SkipReason) : (s.driveCapture why).pending = s.pending :=
  by unfold State.driveCapture; (repeat' split) <;> simp

@[simp] theorem driveLoads_time (s : State) : (s.driveLoads).time = s.time := rfl
@[simp] theorem driveLoads_sched (s : State) : (s.driveLoads).sched = s.sched := rfl
@[simp] theorem driveLoads_ramp (s : State) : (s.driveLoads).ramp = s.ramp := rfl
@[simp] theorem driveLoads_queue (s : State) : (s.driveLoads).queue = s.queue := rfl
@[simp] theorem driveLoads_retention (s : State) : (s.driveLoads).retention = s.retention := rfl
@[simp] theorem driveLoads_session (s : State) : (s.driveLoads).session = s.session := rfl
@[simp] theorem driveLoads_meas (s : State) : (s.driveLoads).meas = s.meas := rfl
@[simp] theorem driveLoads_store (s : State) : (s.driveLoads).store = s.store := rfl
@[simp] theorem driveLoads_settings (s : State) : (s.driveLoads).settings = s.settings := rfl
@[simp] theorem driveLoads_counters (s : State) : (s.driveLoads).counters = s.counters := rfl
@[simp] theorem driveLoads_flags (s : State) : (s.driveLoads).flags = s.flags := rfl
@[simp] theorem driveLoads_inputs (s : State) : (s.driveLoads).inputs = s.inputs := rfl
@[simp] theorem driveLoads_plink (s : State) : (s.driveLoads).plink = s.plink := rfl
@[simp] theorem driveLoads_slink (s : State) : (s.driveLoads).slink = s.slink := rfl
@[simp] theorem driveLoads_pins (s : State) : (s.driveLoads).pins = s.pins := rfl
@[simp] theorem driveLoads_pending (s : State) : (s.driveLoads).pending = s.pending := rfl

@[simp] theorem startHeaterPeriod_time (s : State) : (s.startHeaterPeriod).time = s.time := rfl
@[simp] theorem startHeaterPeriod_sched (s : State) : (s.startHeaterPeriod).sched = s.sched := rfl
@[simp] theorem startHeaterPeriod_ramp (s : State) : (s.startHeaterPeriod).ramp = s.ramp := rfl
@[simp] theorem startHeaterPeriod_queue (s : State) : (s.startHeaterPeriod).queue = s.queue := rfl
@[simp] theorem startHeaterPeriod_retention (s : State) : (s.startHeaterPeriod).retention = s.retention := rfl
@[simp] theorem startHeaterPeriod_session (s : State) : (s.startHeaterPeriod).session = s.session := rfl
@[simp] theorem startHeaterPeriod_meas (s : State) : (s.startHeaterPeriod).meas = s.meas := rfl
@[simp] theorem startHeaterPeriod_store (s : State) : (s.startHeaterPeriod).store = s.store := rfl
@[simp] theorem startHeaterPeriod_settings (s : State) : (s.startHeaterPeriod).settings = s.settings := rfl
@[simp] theorem startHeaterPeriod_counters (s : State) : (s.startHeaterPeriod).counters = s.counters := rfl
@[simp] theorem startHeaterPeriod_flags (s : State) : (s.startHeaterPeriod).flags = s.flags := rfl
@[simp] theorem startHeaterPeriod_inputs (s : State) : (s.startHeaterPeriod).inputs = s.inputs := rfl
@[simp] theorem startHeaterPeriod_plink (s : State) : (s.startHeaterPeriod).plink = s.plink := rfl
@[simp] theorem startHeaterPeriod_slink (s : State) : (s.startHeaterPeriod).slink = s.slink := rfl
@[simp] theorem startHeaterPeriod_pins (s : State) : (s.startHeaterPeriod).pins = s.pins := rfl
@[simp] theorem startHeaterPeriod_pending (s : State) : (s.startHeaterPeriod).pending = s.pending := rfl

@[simp] theorem request_time (s : State) (r : Requests) : (s.request r).time = s.time := rfl
@[simp] theorem request_sched (s : State) (r : Requests) : (s.request r).sched = s.sched := rfl
@[simp] theorem request_ramp (s : State) (r : Requests) : (s.request r).ramp = s.ramp := rfl
@[simp] theorem request_queue (s : State) (r : Requests) : (s.request r).queue = s.queue := rfl
@[simp] theorem request_retention (s : State) (r : Requests) : (s.request r).retention = s.retention := rfl
@[simp] theorem request_session (s : State) (r : Requests) : (s.request r).session = s.session := rfl
@[simp] theorem request_rails (s : State) (r : Requests) : (s.request r).rails = s.rails := rfl
@[simp] theorem request_store (s : State) (r : Requests) : (s.request r).store = s.store := rfl
@[simp] theorem request_settings (s : State) (r : Requests) : (s.request r).settings = s.settings := rfl
@[simp] theorem request_counters (s : State) (r : Requests) : (s.request r).counters = s.counters := rfl
@[simp] theorem request_flags (s : State) (r : Requests) : (s.request r).flags = s.flags := rfl
@[simp] theorem request_inputs (s : State) (r : Requests) : (s.request r).inputs = s.inputs := rfl
@[simp] theorem request_plink (s : State) (r : Requests) : (s.request r).plink = s.plink := rfl
@[simp] theorem request_slink (s : State) (r : Requests) : (s.request r).slink = s.slink := rfl
@[simp] theorem request_pins (s : State) (r : Requests) : (s.request r).pins = s.pins := rfl
@[simp] theorem request_pending (s : State) (r : Requests) : (s.request r).pending = s.pending := rfl

@[simp] theorem arbitrate_time (s : State) : (s.arbitrate).time = s.time :=
  by unfold State.arbitrate; split <;> simp
@[simp] theorem arbitrate_sched (s : State) : (s.arbitrate).sched = s.sched :=
  by unfold State.arbitrate; split <;> simp
@[simp] theorem arbitrate_ramp (s : State) : (s.arbitrate).ramp = s.ramp :=
  by unfold State.arbitrate; split <;> simp
@[simp] theorem arbitrate_queue (s : State) : (s.arbitrate).queue = s.queue :=
  by unfold State.arbitrate; split <;> simp
@[simp] theorem arbitrate_retention (s : State) : (s.arbitrate).retention = s.retention :=
  by unfold State.arbitrate; split <;> simp
@[simp] theorem arbitrate_session (s : State) : (s.arbitrate).session = s.session :=
  by unfold State.arbitrate; split <;> simp
@[simp] theorem arbitrate_rails (s : State) : (s.arbitrate).rails = s.rails :=
  by unfold State.arbitrate; split <;> simp
@[simp] theorem arbitrate_store (s : State) : (s.arbitrate).store = s.store :=
  by unfold State.arbitrate; split <;> simp
@[simp] theorem arbitrate_settings (s : State) : (s.arbitrate).settings = s.settings :=
  by unfold State.arbitrate; split <;> simp
@[simp] theorem arbitrate_counters (s : State) : (s.arbitrate).counters = s.counters :=
  by unfold State.arbitrate; split <;> simp
@[simp] theorem arbitrate_flags (s : State) : (s.arbitrate).flags = s.flags :=
  by unfold State.arbitrate; split <;> simp
@[simp] theorem arbitrate_inputs (s : State) : (s.arbitrate).inputs = s.inputs :=
  by unfold State.arbitrate; split <;> simp
@[simp] theorem arbitrate_plink (s : State) : (s.arbitrate).plink = s.plink :=
  by unfold State.arbitrate; split <;> simp
@[simp] theorem arbitrate_slink (s : State) : (s.arbitrate).slink = s.slink :=
  by unfold State.arbitrate; split <;> simp
@[simp] theorem arbitrate_pins (s : State) : (s.arbitrate).pins = s.pins :=
  by unfold State.arbitrate; split <;> simp
@[simp] theorem arbitrate_pending (s : State) : (s.arbitrate).pending = s.pending :=
  by unfold State.arbitrate; split <;> simp

@[simp] theorem spoil_time (s : State) : (s.spoil).time = s.time := by unfold State.spoil; split <;> simp
@[simp] theorem spoil_sched (s : State) : (s.spoil).sched = s.sched := by unfold State.spoil; split <;> simp
@[simp] theorem spoil_ramp (s : State) : (s.spoil).ramp = s.ramp := by unfold State.spoil; split <;> simp
@[simp] theorem spoil_queue (s : State) : (s.spoil).queue = s.queue := by unfold State.spoil; split <;> simp
@[simp] theorem spoil_retention (s : State) : (s.spoil).retention = s.retention :=
  by unfold State.spoil; split <;> simp
@[simp] theorem spoil_session (s : State) : (s.spoil).session = s.session :=
  by unfold State.spoil; split <;> simp
@[simp] theorem spoil_rails (s : State) : (s.spoil).rails = s.rails := by unfold State.spoil; split <;> simp
@[simp] theorem spoil_store (s : State) : (s.spoil).store = s.store := by unfold State.spoil; split <;> simp
@[simp] theorem spoil_settings (s : State) : (s.spoil).settings = s.settings :=
  by unfold State.spoil; split <;> simp
@[simp] theorem spoil_flags (s : State) : (s.spoil).flags = s.flags := by unfold State.spoil; split <;> simp
@[simp] theorem spoil_inputs (s : State) : (s.spoil).inputs = s.inputs := by unfold State.spoil; split <;> simp
@[simp] theorem spoil_plink (s : State) : (s.spoil).plink = s.plink := by unfold State.spoil; split <;> simp
@[simp] theorem spoil_slink (s : State) : (s.spoil).slink = s.slink := by unfold State.spoil; split <;> simp
@[simp] theorem spoil_pins (s : State) : (s.spoil).pins = s.pins := by unfold State.spoil; split <;> simp
@[simp] theorem spoil_pending (s : State) : (s.spoil).pending = s.pending :=
  by unfold State.spoil; split <;> simp

@[simp] theorem openBlanking_time (s : State) : (s.openBlanking).time = s.time :=
  by unfold State.openBlanking; split <;> simp
@[simp] theorem openBlanking_sched (s : State) : (s.openBlanking).sched = s.sched :=
  by unfold State.openBlanking; split <;> simp
@[simp] theorem openBlanking_ramp (s : State) : (s.openBlanking).ramp = s.ramp :=
  by unfold State.openBlanking; split <;> simp
@[simp] theorem openBlanking_queue (s : State) : (s.openBlanking).queue = s.queue :=
  by unfold State.openBlanking; split <;> simp
@[simp] theorem openBlanking_retention (s : State) : (s.openBlanking).retention = s.retention :=
  by unfold State.openBlanking; split <;> simp
@[simp] theorem openBlanking_session (s : State) : (s.openBlanking).session = s.session :=
  by unfold State.openBlanking; split <;> simp
@[simp] theorem openBlanking_rails (s : State) : (s.openBlanking).rails = s.rails :=
  by unfold State.openBlanking; split <;> simp
@[simp] theorem openBlanking_store (s : State) : (s.openBlanking).store = s.store :=
  by unfold State.openBlanking; split <;> simp
@[simp] theorem openBlanking_settings (s : State) : (s.openBlanking).settings = s.settings :=
  by unfold State.openBlanking; split <;> simp
@[simp] theorem openBlanking_counters (s : State) : (s.openBlanking).counters = s.counters :=
  by unfold State.openBlanking; split <;> simp
@[simp] theorem openBlanking_flags (s : State) : (s.openBlanking).flags = s.flags :=
  by unfold State.openBlanking; split <;> simp
@[simp] theorem openBlanking_inputs (s : State) : (s.openBlanking).inputs = s.inputs :=
  by unfold State.openBlanking; split <;> simp
@[simp] theorem openBlanking_plink (s : State) : (s.openBlanking).plink = s.plink :=
  by unfold State.openBlanking; split <;> simp
@[simp] theorem openBlanking_slink (s : State) : (s.openBlanking).slink = s.slink :=
  by unfold State.openBlanking; split <;> simp
@[simp] theorem openBlanking_pins (s : State) : (s.openBlanking).pins = s.pins :=
  by unfold State.openBlanking; split <;> simp
@[simp] theorem openBlanking_pending (s : State) : (s.openBlanking).pending = s.pending :=
  by unfold State.openBlanking; split <;> simp

@[simp] theorem reportEdges_time (s : State) (b : State) : (State.reportEdges b s).time = s.time :=
  by unfold State.reportEdges; split <;> simp
@[simp] theorem reportEdges_sched (s : State) (b : State) : (State.reportEdges b s).sched = s.sched :=
  by unfold State.reportEdges; split <;> simp
@[simp] theorem reportEdges_ramp (s : State) (b : State) : (State.reportEdges b s).ramp = s.ramp :=
  by unfold State.reportEdges; split <;> simp
@[simp] theorem reportEdges_queue (s : State) (b : State) : (State.reportEdges b s).queue = s.queue :=
  by unfold State.reportEdges; split <;> simp
@[simp] theorem reportEdges_retention (s : State) (b : State) : (State.reportEdges b s).retention = s.retention :=
  by unfold State.reportEdges; split <;> simp
@[simp] theorem reportEdges_session (s : State) (b : State) : (State.reportEdges b s).session = s.session :=
  by unfold State.reportEdges; split <;> simp
@[simp] theorem reportEdges_rails (s : State) (b : State) : (State.reportEdges b s).rails = s.rails :=
  by unfold State.reportEdges; split <;> simp
@[simp] theorem reportEdges_store (s : State) (b : State) : (State.reportEdges b s).store = s.store :=
  by unfold State.reportEdges; split <;> simp
@[simp] theorem reportEdges_settings (s : State) (b : State) : (State.reportEdges b s).settings = s.settings :=
  by unfold State.reportEdges; split <;> simp
@[simp] theorem reportEdges_flags (s : State) (b : State) : (State.reportEdges b s).flags = s.flags :=
  by unfold State.reportEdges; split <;> simp
@[simp] theorem reportEdges_inputs (s : State) (b : State) : (State.reportEdges b s).inputs = s.inputs :=
  by unfold State.reportEdges; split <;> simp
@[simp] theorem reportEdges_plink (s : State) (b : State) : (State.reportEdges b s).plink = s.plink :=
  by unfold State.reportEdges; split <;> simp
@[simp] theorem reportEdges_slink (s : State) (b : State) : (State.reportEdges b s).slink = s.slink :=
  by unfold State.reportEdges; split <;> simp
@[simp] theorem reportEdges_pins (s : State) (b : State) : (State.reportEdges b s).pins = s.pins :=
  by unfold State.reportEdges; split <;> simp
@[simp] theorem reportEdges_pending (s : State) (b : State) : (State.reportEdges b s).pending = s.pending :=
  by unfold State.reportEdges; split <;> simp

@[simp] theorem takeTrip_time (s : State) : (s.takeTrip).time = s.time := rfl
@[simp] theorem takeTrip_sched (s : State) : (s.takeTrip).sched = s.sched := rfl
@[simp] theorem takeTrip_ramp (s : State) : (s.takeTrip).ramp = s.ramp := rfl
@[simp] theorem takeTrip_queue (s : State) : (s.takeTrip).queue = s.queue := rfl
@[simp] theorem takeTrip_retention (s : State) : (s.takeTrip).retention = s.retention := rfl
@[simp] theorem takeTrip_session (s : State) : (s.takeTrip).session = s.session := rfl
@[simp] theorem takeTrip_rails (s : State) : (s.takeTrip).rails = s.rails := rfl
@[simp] theorem takeTrip_store (s : State) : (s.takeTrip).store = s.store := rfl
@[simp] theorem takeTrip_settings (s : State) : (s.takeTrip).settings = s.settings := rfl
@[simp] theorem takeTrip_inputs (s : State) : (s.takeTrip).inputs = s.inputs := rfl
@[simp] theorem takeTrip_plink (s : State) : (s.takeTrip).plink = s.plink := rfl
@[simp] theorem takeTrip_slink (s : State) : (s.takeTrip).slink = s.slink := rfl
@[simp] theorem takeTrip_pins (s : State) : (s.takeTrip).pins = s.pins := rfl
@[simp] theorem takeTrip_pending (s : State) : (s.takeTrip).pending = s.pending := rfl

@[simp] theorem clearSagAtShot_time (s : State) : (s.clearSagAtShot).time = s.time :=
  by unfold State.clearSagAtShot; split <;> simp
@[simp] theorem clearSagAtShot_sched (s : State) : (s.clearSagAtShot).sched = s.sched :=
  by unfold State.clearSagAtShot; split <;> simp
@[simp] theorem clearSagAtShot_ramp (s : State) : (s.clearSagAtShot).ramp = s.ramp :=
  by unfold State.clearSagAtShot; split <;> simp
@[simp] theorem clearSagAtShot_queue (s : State) : (s.clearSagAtShot).queue = s.queue :=
  by unfold State.clearSagAtShot; split <;> simp
@[simp] theorem clearSagAtShot_retention (s : State) : (s.clearSagAtShot).retention = s.retention :=
  by unfold State.clearSagAtShot; split <;> simp
@[simp] theorem clearSagAtShot_session (s : State) : (s.clearSagAtShot).session = s.session :=
  by unfold State.clearSagAtShot; split <;> simp
@[simp] theorem clearSagAtShot_rails (s : State) : (s.clearSagAtShot).rails = s.rails :=
  by unfold State.clearSagAtShot; split <;> simp
@[simp] theorem clearSagAtShot_store (s : State) : (s.clearSagAtShot).store = s.store :=
  by unfold State.clearSagAtShot; split <;> simp
@[simp] theorem clearSagAtShot_settings (s : State) : (s.clearSagAtShot).settings = s.settings :=
  by unfold State.clearSagAtShot; split <;> simp
@[simp] theorem clearSagAtShot_counters (s : State) : (s.clearSagAtShot).counters = s.counters :=
  by unfold State.clearSagAtShot; split <;> simp
@[simp] theorem clearSagAtShot_flags (s : State) : (s.clearSagAtShot).flags = s.flags :=
  by unfold State.clearSagAtShot; split <;> simp
@[simp] theorem clearSagAtShot_inputs (s : State) : (s.clearSagAtShot).inputs = s.inputs :=
  by unfold State.clearSagAtShot; split <;> simp
@[simp] theorem clearSagAtShot_plink (s : State) : (s.clearSagAtShot).plink = s.plink :=
  by unfold State.clearSagAtShot; split <;> simp
@[simp] theorem clearSagAtShot_slink (s : State) : (s.clearSagAtShot).slink = s.slink :=
  by unfold State.clearSagAtShot; split <;> simp
@[simp] theorem clearSagAtShot_pins (s : State) : (s.clearSagAtShot).pins = s.pins :=
  by unfold State.clearSagAtShot; split <;> simp
@[simp] theorem clearSagAtShot_pending (s : State) : (s.clearSagAtShot).pending = s.pending :=
  by unfold State.clearSagAtShot; split <;> simp

@[simp] theorem startMeasuring_time (s : State) : (s.startMeasuring).time = s.time := rfl
@[simp] theorem startMeasuring_sched (s : State) : (s.startMeasuring).sched = s.sched := rfl
@[simp] theorem startMeasuring_ramp (s : State) : (s.startMeasuring).ramp = s.ramp := rfl
@[simp] theorem startMeasuring_queue (s : State) : (s.startMeasuring).queue = s.queue := rfl
@[simp] theorem startMeasuring_retention (s : State) : (s.startMeasuring).retention = s.retention := rfl
@[simp] theorem startMeasuring_session (s : State) : (s.startMeasuring).session = s.session := rfl
@[simp] theorem startMeasuring_rails (s : State) : (s.startMeasuring).rails = s.rails := rfl
@[simp] theorem startMeasuring_store (s : State) : (s.startMeasuring).store = s.store := rfl
@[simp] theorem startMeasuring_settings (s : State) : (s.startMeasuring).settings = s.settings := rfl
@[simp] theorem startMeasuring_counters (s : State) : (s.startMeasuring).counters = s.counters := rfl
@[simp] theorem startMeasuring_flags (s : State) : (s.startMeasuring).flags = s.flags := rfl
@[simp] theorem startMeasuring_inputs (s : State) : (s.startMeasuring).inputs = s.inputs := rfl
@[simp] theorem startMeasuring_plink (s : State) : (s.startMeasuring).plink = s.plink := rfl
@[simp] theorem startMeasuring_slink (s : State) : (s.startMeasuring).slink = s.slink := rfl
@[simp] theorem startMeasuring_pins (s : State) : (s.startMeasuring).pins = s.pins := rfl
@[simp] theorem startMeasuring_pending (s : State) : (s.startMeasuring).pending = s.pending := rfl

@[simp] theorem wake_time (s : State) : (s.wake).time = s.time := rfl
@[simp] theorem wake_sched (s : State) : (s.wake).sched = s.sched := rfl
@[simp] theorem wake_ramp (s : State) : (s.wake).ramp = s.ramp := rfl
@[simp] theorem wake_queue (s : State) : (s.wake).queue = s.queue := rfl
@[simp] theorem wake_retention (s : State) : (s.wake).retention = s.retention := rfl
@[simp] theorem wake_rails (s : State) : (s.wake).rails = s.rails := rfl
@[simp] theorem wake_meas (s : State) : (s.wake).meas = s.meas := rfl
@[simp] theorem wake_store (s : State) : (s.wake).store = s.store := rfl
@[simp] theorem wake_settings (s : State) : (s.wake).settings = s.settings := rfl
@[simp] theorem wake_counters (s : State) : (s.wake).counters = s.counters := rfl
@[simp] theorem wake_flags (s : State) : (s.wake).flags = s.flags := rfl
@[simp] theorem wake_inputs (s : State) : (s.wake).inputs = s.inputs := rfl
@[simp] theorem wake_plink (s : State) : (s.wake).plink = s.plink := rfl
@[simp] theorem wake_slink (s : State) : (s.wake).slink = s.slink := rfl
@[simp] theorem wake_pins (s : State) : (s.wake).pins = s.pins := rfl
@[simp] theorem wake_pending (s : State) : (s.wake).pending = s.pending := rfl

@[simp] theorem evaluateWake_time (s : State) : (s.evaluateWake).time = s.time :=
  by unfold State.evaluateWake; split <;> simp
@[simp] theorem evaluateWake_sched (s : State) : (s.evaluateWake).sched = s.sched :=
  by unfold State.evaluateWake; split <;> simp
@[simp] theorem evaluateWake_ramp (s : State) : (s.evaluateWake).ramp = s.ramp :=
  by unfold State.evaluateWake; split <;> simp
@[simp] theorem evaluateWake_queue (s : State) : (s.evaluateWake).queue = s.queue :=
  by unfold State.evaluateWake; split <;> simp
@[simp] theorem evaluateWake_retention (s : State) : (s.evaluateWake).retention = s.retention :=
  by unfold State.evaluateWake; split <;> simp
@[simp] theorem evaluateWake_rails (s : State) : (s.evaluateWake).rails = s.rails :=
  by unfold State.evaluateWake; split <;> simp
@[simp] theorem evaluateWake_meas (s : State) : (s.evaluateWake).meas = s.meas :=
  by unfold State.evaluateWake; split <;> simp
@[simp] theorem evaluateWake_store (s : State) : (s.evaluateWake).store = s.store :=
  by unfold State.evaluateWake; split <;> simp
@[simp] theorem evaluateWake_settings (s : State) : (s.evaluateWake).settings = s.settings :=
  by unfold State.evaluateWake; split <;> simp
@[simp] theorem evaluateWake_counters (s : State) : (s.evaluateWake).counters = s.counters :=
  by unfold State.evaluateWake; split <;> simp
@[simp] theorem evaluateWake_flags (s : State) : (s.evaluateWake).flags = s.flags :=
  by unfold State.evaluateWake; split <;> simp
@[simp] theorem evaluateWake_inputs (s : State) : (s.evaluateWake).inputs = s.inputs :=
  by unfold State.evaluateWake; split <;> simp
@[simp] theorem evaluateWake_plink (s : State) : (s.evaluateWake).plink = s.plink :=
  by unfold State.evaluateWake; split <;> simp
@[simp] theorem evaluateWake_slink (s : State) : (s.evaluateWake).slink = s.slink :=
  by unfold State.evaluateWake; split <;> simp
@[simp] theorem evaluateWake_pins (s : State) : (s.evaluateWake).pins = s.pins :=
  by unfold State.evaluateWake; split <;> simp
@[simp] theorem evaluateWake_pending (s : State) : (s.evaluateWake).pending = s.pending :=
  by unfold State.evaluateWake; split <;> simp

@[simp] theorem endSession_time (s : State) : (s.endSession).time = s.time := by unfold State.endSession; simp
@[simp] theorem endSession_sched (s : State) : (s.endSession).sched = s.sched :=
  by unfold State.endSession; simp
@[simp] theorem endSession_ramp (s : State) : (s.endSession).ramp = s.ramp := by unfold State.endSession; simp
@[simp] theorem endSession_queue (s : State) : (s.endSession).queue = s.queue :=
  by unfold State.endSession; simp
@[simp] theorem endSession_retention (s : State) : (s.endSession).retention = s.retention :=
  by unfold State.endSession; simp
@[simp] theorem endSession_rails (s : State) : (s.endSession).rails = s.rails :=
  by unfold State.endSession; simp
@[simp] theorem endSession_meas (s : State) : (s.endSession).meas = s.meas := by unfold State.endSession; simp
@[simp] theorem endSession_settings (s : State) : (s.endSession).settings = s.settings :=
  by unfold State.endSession; simp
@[simp] theorem endSession_counters (s : State) :
    (s.endSession).counters = (s.countMany .outOfSession s.plink.rx.length).counters :=
  by unfold State.endSession; simp
@[simp] theorem endSession_plink (s : State) : (s.endSession).plink = { s.plink with rx := [], tx := [] } :=
  by unfold State.endSession; simp
@[simp] theorem endSession_flags (s : State) : (s.endSession).flags = s.flags :=
  by unfold State.endSession; simp
@[simp] theorem endSession_inputs (s : State) : (s.endSession).inputs = s.inputs :=
  by unfold State.endSession; simp
@[simp] theorem endSession_slink (s : State) : (s.endSession).slink = s.slink :=
  by unfold State.endSession; simp
@[simp] theorem endSession_pins (s : State) : (s.endSession).pins = s.pins := by unfold State.endSession; simp
@[simp] theorem endSession_pending (s : State) : (s.endSession).pending = s.pending :=
  by unfold State.endSession; simp

@[simp] theorem forceSleep_time (s : State) : (s.forceSleep).time = s.time := by unfold State.forceSleep; simp
@[simp] theorem forceSleep_sched (s : State) : (s.forceSleep).sched = s.sched :=
  by unfold State.forceSleep; simp
@[simp] theorem forceSleep_ramp (s : State) : (s.forceSleep).ramp = s.ramp := by unfold State.forceSleep; simp
@[simp] theorem forceSleep_retention (s : State) : (s.forceSleep).retention = s.retention :=
  by unfold State.forceSleep; simp
@[simp] theorem forceSleep_rails (s : State) : (s.forceSleep).rails = s.rails :=
  by unfold State.forceSleep; simp
@[simp] theorem forceSleep_meas (s : State) : (s.forceSleep).meas = s.meas := by unfold State.forceSleep; simp
@[simp] theorem forceSleep_settings (s : State) : (s.forceSleep).settings = s.settings :=
  by unfold State.forceSleep; simp
@[simp] theorem forceSleep_inputs (s : State) : (s.forceSleep).inputs = s.inputs :=
  by unfold State.forceSleep; simp
@[simp] theorem forceSleep_slink (s : State) : (s.forceSleep).slink = s.slink :=
  by unfold State.forceSleep; simp
@[simp] theorem forceSleep_pins (s : State) : (s.forceSleep).pins = s.pins := by unfold State.forceSleep; simp
@[simp] theorem forceSleep_pending (s : State) : (s.forceSleep).pending = s.pending :=
  by unfold State.forceSleep; simp

@[simp] theorem beginOffer_time (s : State) (r : ShotRecord) : (s.beginOffer r).time = s.time := rfl
@[simp] theorem beginOffer_sched (s : State) (r : ShotRecord) : (s.beginOffer r).sched = s.sched := rfl
@[simp] theorem beginOffer_ramp (s : State) (r : ShotRecord) : (s.beginOffer r).ramp = s.ramp := rfl
@[simp] theorem beginOffer_retention (s : State) (r : ShotRecord) : (s.beginOffer r).retention = s.retention :=
  rfl
@[simp] theorem beginOffer_rails (s : State) (r : ShotRecord) : (s.beginOffer r).rails = s.rails := rfl
@[simp] theorem beginOffer_meas (s : State) (r : ShotRecord) : (s.beginOffer r).meas = s.meas := rfl
@[simp] theorem beginOffer_store (s : State) (r : ShotRecord) : (s.beginOffer r).store = s.store := rfl
@[simp] theorem beginOffer_settings (s : State) (r : ShotRecord) : (s.beginOffer r).settings = s.settings := rfl
@[simp] theorem beginOffer_counters (s : State) (r : ShotRecord) : (s.beginOffer r).counters = s.counters := rfl
@[simp] theorem beginOffer_flags (s : State) (r : ShotRecord) : (s.beginOffer r).flags = s.flags := rfl
@[simp] theorem beginOffer_inputs (s : State) (r : ShotRecord) : (s.beginOffer r).inputs = s.inputs := rfl
@[simp] theorem beginOffer_plink (s : State) (r : ShotRecord) : (s.beginOffer r).plink = s.plink := rfl
@[simp] theorem beginOffer_slink (s : State) (r : ShotRecord) : (s.beginOffer r).slink = s.slink := rfl
@[simp] theorem beginOffer_pins (s : State) (r : ShotRecord) : (s.beginOffer r).pins = s.pins := rfl
@[simp] theorem beginOffer_pending (s : State) (r : ShotRecord) : (s.beginOffer r).pending = s.pending := rfl

@[simp] theorem offerTest_time (s : State) : (s.offerTest).time = s.time :=
  by unfold State.offerTest; split <;> simp
@[simp] theorem offerTest_sched (s : State) : (s.offerTest).sched = s.sched :=
  by unfold State.offerTest; split <;> simp
@[simp] theorem offerTest_ramp (s : State) : (s.offerTest).ramp = s.ramp :=
  by unfold State.offerTest; split <;> simp
@[simp] theorem offerTest_retention (s : State) : (s.offerTest).retention = s.retention :=
  by unfold State.offerTest; split <;> simp
@[simp] theorem offerTest_rails (s : State) : (s.offerTest).rails = s.rails :=
  by unfold State.offerTest; split <;> simp
@[simp] theorem offerTest_meas (s : State) : (s.offerTest).meas = s.meas :=
  by unfold State.offerTest; split <;> simp
@[simp] theorem offerTest_store (s : State) : (s.offerTest).store = s.store :=
  by unfold State.offerTest; split <;> simp
@[simp] theorem offerTest_settings (s : State) : (s.offerTest).settings = s.settings :=
  by unfold State.offerTest; split <;> simp
@[simp] theorem offerTest_counters (s : State) : (s.offerTest).counters = s.counters :=
  by unfold State.offerTest; split <;> simp
@[simp] theorem offerTest_flags (s : State) : (s.offerTest).flags = s.flags :=
  by unfold State.offerTest; split <;> simp
@[simp] theorem offerTest_inputs (s : State) : (s.offerTest).inputs = s.inputs :=
  by unfold State.offerTest; split <;> simp
@[simp] theorem offerTest_slink (s : State) : (s.offerTest).slink = s.slink :=
  by unfold State.offerTest; split <;> simp
@[simp] theorem offerTest_pins (s : State) : (s.offerTest).pins = s.pins :=
  by unfold State.offerTest; split <;> simp
@[simp] theorem offerTest_pending (s : State) : (s.offerTest).pending = s.pending :=
  by unfold State.offerTest; split <;> simp

@[simp] theorem cancelOffer_time (s : State) : (s.cancelOffer).time = s.time :=
  by unfold State.cancelOffer; split <;> simp
@[simp] theorem cancelOffer_sched (s : State) : (s.cancelOffer).sched = s.sched :=
  by unfold State.cancelOffer; split <;> simp
@[simp] theorem cancelOffer_ramp (s : State) : (s.cancelOffer).ramp = s.ramp :=
  by unfold State.cancelOffer; split <;> simp
@[simp] theorem cancelOffer_queue (s : State) : (s.cancelOffer).queue = s.queue :=
  by unfold State.cancelOffer; split <;> simp
@[simp] theorem cancelOffer_retention (s : State) : (s.cancelOffer).retention = s.retention :=
  by unfold State.cancelOffer; split <;> simp
@[simp] theorem cancelOffer_rails (s : State) : (s.cancelOffer).rails = s.rails :=
  by unfold State.cancelOffer; split <;> simp
@[simp] theorem cancelOffer_meas (s : State) : (s.cancelOffer).meas = s.meas :=
  by unfold State.cancelOffer; split <;> simp
@[simp] theorem cancelOffer_store (s : State) : (s.cancelOffer).store = s.store :=
  by unfold State.cancelOffer; split <;> simp
@[simp] theorem cancelOffer_settings (s : State) : (s.cancelOffer).settings = s.settings :=
  by unfold State.cancelOffer; split <;> simp
@[simp] theorem cancelOffer_counters (s : State) : (s.cancelOffer).counters = s.counters :=
  by unfold State.cancelOffer; split <;> simp
@[simp] theorem cancelOffer_flags (s : State) : (s.cancelOffer).flags = s.flags :=
  by unfold State.cancelOffer; split <;> simp
@[simp] theorem cancelOffer_inputs (s : State) : (s.cancelOffer).inputs = s.inputs :=
  by unfold State.cancelOffer; split <;> simp
@[simp] theorem cancelOffer_plink (s : State) : (s.cancelOffer).plink = s.plink :=
  by unfold State.cancelOffer; split <;> simp
@[simp] theorem cancelOffer_slink (s : State) : (s.cancelOffer).slink = s.slink :=
  by unfold State.cancelOffer; split <;> simp
@[simp] theorem cancelOffer_pins (s : State) : (s.cancelOffer).pins = s.pins :=
  by unfold State.cancelOffer; split <;> simp
@[simp] theorem cancelOffer_pending (s : State) : (s.cancelOffer).pending = s.pending :=
  by unfold State.cancelOffer; split <;> simp

@[simp] theorem sessionAfter_time (s : State) : (s.sessionAfter).time = s.time :=
  by unfold State.sessionAfter; (repeat' split) <;> simp
@[simp] theorem sessionAfter_sched (s : State) : (s.sessionAfter).sched = s.sched :=
  by unfold State.sessionAfter; (repeat' split) <;> simp
@[simp] theorem sessionAfter_ramp (s : State) : (s.sessionAfter).ramp = s.ramp :=
  by unfold State.sessionAfter; (repeat' split) <;> simp
@[simp] theorem sessionAfter_retention (s : State) : (s.sessionAfter).retention = s.retention :=
  by unfold State.sessionAfter; (repeat' split) <;> simp
@[simp] theorem sessionAfter_rails (s : State) : (s.sessionAfter).rails = s.rails :=
  by unfold State.sessionAfter; (repeat' split) <;> simp
@[simp] theorem sessionAfter_meas (s : State) : (s.sessionAfter).meas = s.meas :=
  by unfold State.sessionAfter; (repeat' split) <;> simp
@[simp] theorem sessionAfter_settings (s : State) : (s.sessionAfter).settings = s.settings :=
  by unfold State.sessionAfter; (repeat' split) <;> simp
@[simp] theorem sessionAfter_flags (s : State) : (s.sessionAfter).flags = s.flags :=
  by unfold State.sessionAfter; (repeat' split) <;> simp
@[simp] theorem sessionAfter_inputs (s : State) : (s.sessionAfter).inputs = s.inputs :=
  by unfold State.sessionAfter; (repeat' split) <;> simp
@[simp] theorem sessionAfter_slink (s : State) : (s.sessionAfter).slink = s.slink :=
  by unfold State.sessionAfter; (repeat' split) <;> simp
@[simp] theorem sessionAfter_pins (s : State) : (s.sessionAfter).pins = s.pins :=
  by unfold State.sessionAfter; (repeat' split) <;> simp
@[simp] theorem sessionAfter_pending (s : State) : (s.sessionAfter).pending = s.pending :=
  by unfold State.sessionAfter; (repeat' split) <;> simp

@[simp] theorem concludeLoads_time (s : State) (b : State) : (State.concludeLoads b s).time = s.time :=
  by unfold State.concludeLoads; simp
@[simp] theorem concludeLoads_sched (s : State) (b : State) : (State.concludeLoads b s).sched = s.sched :=
  by unfold State.concludeLoads; simp
@[simp] theorem concludeLoads_ramp (s : State) (b : State) : (State.concludeLoads b s).ramp = s.ramp :=
  by unfold State.concludeLoads; simp
@[simp] theorem concludeLoads_queue (s : State) (b : State) : (State.concludeLoads b s).queue = s.queue :=
  by unfold State.concludeLoads; simp
@[simp] theorem concludeLoads_retention (s : State) (b : State) : (State.concludeLoads b s).retention = s.retention :=
  by unfold State.concludeLoads; simp
@[simp] theorem concludeLoads_session (s : State) (b : State) : (State.concludeLoads b s).session = s.session :=
  by unfold State.concludeLoads; simp
@[simp] theorem concludeLoads_store (s : State) (b : State) : (State.concludeLoads b s).store = s.store :=
  by unfold State.concludeLoads; simp
@[simp] theorem concludeLoads_settings (s : State) (b : State) : (State.concludeLoads b s).settings = s.settings :=
  by unfold State.concludeLoads; simp
@[simp] theorem concludeLoads_flags (s : State) (b : State) : (State.concludeLoads b s).flags = s.flags :=
  by unfold State.concludeLoads; simp
@[simp] theorem concludeLoads_inputs (s : State) (b : State) : (State.concludeLoads b s).inputs = s.inputs :=
  by unfold State.concludeLoads; simp
@[simp] theorem concludeLoads_plink (s : State) (b : State) : (State.concludeLoads b s).plink = s.plink :=
  by unfold State.concludeLoads; simp
@[simp] theorem concludeLoads_slink (s : State) (b : State) : (State.concludeLoads b s).slink = s.slink :=
  by unfold State.concludeLoads; simp
@[simp] theorem concludeLoads_pins (s : State) (b : State) : (State.concludeLoads b s).pins = s.pins :=
  by unfold State.concludeLoads; simp
@[simp] theorem concludeLoads_pending (s : State) (b : State) : (State.concludeLoads b s).pending = s.pending :=
  by unfold State.concludeLoads; simp

@[simp] theorem conclude_time (s : State) (why : SkipReason) (b : State) : (State.conclude why b s).time = s.time :=
  by unfold State.conclude; simp
@[simp] theorem conclude_ramp (s : State) (why : SkipReason) (b : State) : (State.conclude why b s).ramp = s.ramp :=
  by unfold State.conclude; simp
@[simp] theorem conclude_retention (s : State) (why : SkipReason) (b : State) : (State.conclude why b s).retention = s.retention :=
  by unfold State.conclude; simp
@[simp] theorem conclude_settings (s : State) (why : SkipReason) (b : State) : (State.conclude why b s).settings = s.settings :=
  by unfold State.conclude; simp
@[simp] theorem conclude_flags (s : State) (why : SkipReason) (b : State) : (State.conclude why b s).flags = s.flags :=
  by unfold State.conclude; simp
@[simp] theorem conclude_inputs (s : State) (why : SkipReason) (b : State) : (State.conclude why b s).inputs = s.inputs :=
  by unfold State.conclude; simp
@[simp] theorem conclude_pins (s : State) (why : SkipReason) (b : State) : (State.conclude why b s).pins = s.pins :=
  by unfold State.conclude; simp
@[simp] theorem conclude_pending (s : State) (why : SkipReason) (b : State) : (State.conclude why b s).pending = s.pending :=
  by unfold State.conclude; simp

@[simp] theorem settle_time (s : State) (why : SkipReason) (b : State) : (State.settle why b s).time = s.time :=
  by unfold State.settle; simp
@[simp] theorem settle_ramp (s : State) (why : SkipReason) (b : State) : (State.settle why b s).ramp = s.ramp :=
  by unfold State.settle; simp
@[simp] theorem settle_retention (s : State) (why : SkipReason) (b : State) : (State.settle why b s).retention = s.retention :=
  by unfold State.settle; simp
@[simp] theorem settle_settings (s : State) (why : SkipReason) (b : State) : (State.settle why b s).settings = s.settings :=
  by unfold State.settle; simp
@[simp] theorem settle_flags (s : State) (why : SkipReason) (b : State) : (State.settle why b s).flags = s.flags :=
  by unfold State.settle; simp
@[simp] theorem settle_inputs (s : State) (why : SkipReason) (b : State) : (State.settle why b s).inputs = s.inputs :=
  by unfold State.settle; simp
@[simp] theorem settle_pins (s : State) (why : SkipReason) (b : State) : (State.settle why b s).pins = s.pins :=
  by unfold State.settle; simp
@[simp] theorem settle_pending (s : State) (why : SkipReason) (b : State) : (State.settle why b s).pending = s.pending :=
  by unfold State.settle; simp

@[simp] theorem settleIfPresented_time (s : State) (why : SkipReason) (b : State) : (State.settleIfPresented why b s).time = s.time :=
  by unfold State.settleIfPresented; split <;> simp
@[simp] theorem settleIfPresented_ramp (s : State) (why : SkipReason) (b : State) : (State.settleIfPresented why b s).ramp = s.ramp :=
  by unfold State.settleIfPresented; split <;> simp
@[simp] theorem settleIfPresented_retention (s : State) (why : SkipReason) (b : State) : (State.settleIfPresented why b s).retention = s.retention :=
  by unfold State.settleIfPresented; split <;> simp
@[simp] theorem settleIfPresented_settings (s : State) (why : SkipReason) (b : State) : (State.settleIfPresented why b s).settings = s.settings :=
  by unfold State.settleIfPresented; split <;> simp
@[simp] theorem settleIfPresented_flags (s : State) (why : SkipReason) (b : State) : (State.settleIfPresented why b s).flags = s.flags :=
  by unfold State.settleIfPresented; split <;> simp
@[simp] theorem settleIfPresented_inputs (s : State) (why : SkipReason) (b : State) : (State.settleIfPresented why b s).inputs = s.inputs :=
  by unfold State.settleIfPresented; split <;> simp
@[simp] theorem settleIfPresented_pins (s : State) (why : SkipReason) (b : State) : (State.settleIfPresented why b s).pins = s.pins :=
  by unfold State.settleIfPresented; split <;> simp
@[simp] theorem settleIfPresented_pending (s : State) (why : SkipReason) (b : State) : (State.settleIfPresented why b s).pending = s.pending :=
  by unfold State.settleIfPresented; split <;> simp

@[simp] theorem sendStatus_time (s : State) : (s.sendStatus).time = s.time := rfl
@[simp] theorem sendStatus_sched (s : State) : (s.sendStatus).sched = s.sched := rfl
@[simp] theorem sendStatus_ramp (s : State) : (s.sendStatus).ramp = s.ramp := rfl
@[simp] theorem sendStatus_queue (s : State) : (s.sendStatus).queue = s.queue := rfl
@[simp] theorem sendStatus_retention (s : State) : (s.sendStatus).retention = s.retention := rfl
@[simp] theorem sendStatus_session (s : State) : (s.sendStatus).session = s.session := rfl
@[simp] theorem sendStatus_rails (s : State) : (s.sendStatus).rails = s.rails := rfl
@[simp] theorem sendStatus_meas (s : State) : (s.sendStatus).meas = s.meas := rfl
@[simp] theorem sendStatus_store (s : State) : (s.sendStatus).store = s.store := rfl
@[simp] theorem sendStatus_settings (s : State) : (s.sendStatus).settings = s.settings := rfl
@[simp] theorem sendStatus_counters (s : State) : (s.sendStatus).counters = s.counters := rfl
@[simp] theorem sendStatus_flags (s : State) : (s.sendStatus).flags = s.flags := rfl
@[simp] theorem sendStatus_slink (s : State) : (s.sendStatus).slink = s.slink := rfl
@[simp] theorem sendStatus_pins (s : State) : (s.sendStatus).pins = s.pins := rfl
@[simp] theorem sendStatus_pending (s : State) : (s.sendStatus).pending = s.pending := rfl

@[simp] theorem statusThenOffer_time (s : State) : (s.statusThenOffer).time = s.time :=
  by unfold State.statusThenOffer; split <;> simp
@[simp] theorem statusThenOffer_sched (s : State) : (s.statusThenOffer).sched = s.sched :=
  by unfold State.statusThenOffer; split <;> simp
@[simp] theorem statusThenOffer_ramp (s : State) : (s.statusThenOffer).ramp = s.ramp :=
  by unfold State.statusThenOffer; split <;> simp
@[simp] theorem statusThenOffer_retention (s : State) : (s.statusThenOffer).retention = s.retention :=
  by unfold State.statusThenOffer; split <;> simp
@[simp] theorem statusThenOffer_rails (s : State) : (s.statusThenOffer).rails = s.rails :=
  by unfold State.statusThenOffer; split <;> simp
@[simp] theorem statusThenOffer_meas (s : State) : (s.statusThenOffer).meas = s.meas :=
  by unfold State.statusThenOffer; split <;> simp
@[simp] theorem statusThenOffer_store (s : State) : (s.statusThenOffer).store = s.store :=
  by unfold State.statusThenOffer; split <;> simp
@[simp] theorem statusThenOffer_settings (s : State) : (s.statusThenOffer).settings = s.settings :=
  by unfold State.statusThenOffer; split <;> simp
@[simp] theorem statusThenOffer_counters (s : State) : (s.statusThenOffer).counters = s.counters :=
  by unfold State.statusThenOffer; split <;> simp
@[simp] theorem statusThenOffer_flags (s : State) : (s.statusThenOffer).flags = s.flags :=
  by unfold State.statusThenOffer; split <;> simp
@[simp] theorem statusThenOffer_slink (s : State) : (s.statusThenOffer).slink = s.slink :=
  by unfold State.statusThenOffer; split <;> simp
@[simp] theorem statusThenOffer_pins (s : State) : (s.statusThenOffer).pins = s.pins :=
  by unfold State.statusThenOffer; split <;> simp
@[simp] theorem statusThenOffer_pending (s : State) : (s.statusThenOffer).pending = s.pending :=
  by unfold State.statusThenOffer; split <;> simp

@[simp] theorem present_time (s : State) : (s.present).time = s.time := rfl
@[simp] theorem present_sched (s : State) : (s.present).sched = s.sched := rfl
@[simp] theorem present_ramp (s : State) : (s.present).ramp = s.ramp := rfl
@[simp] theorem present_queue (s : State) : (s.present).queue = s.queue := rfl
@[simp] theorem present_retention (s : State) : (s.present).retention = s.retention := rfl
@[simp] theorem present_session (s : State) : (s.present).session = s.session := rfl
@[simp] theorem present_meas (s : State) : (s.present).meas = s.meas := rfl
@[simp] theorem present_store (s : State) : (s.present).store = s.store := rfl
@[simp] theorem present_settings (s : State) : (s.present).settings = s.settings := rfl
@[simp] theorem present_counters (s : State) : (s.present).counters = s.counters := rfl
@[simp] theorem present_flags (s : State) : (s.present).flags = s.flags := rfl
@[simp] theorem present_inputs (s : State) : (s.present).inputs = s.inputs := rfl
@[simp] theorem present_plink (s : State) : (s.present).plink = s.plink := rfl
@[simp] theorem present_slink (s : State) : (s.present).slink = s.slink := rfl
@[simp] theorem present_pins (s : State) : (s.present).pins = s.pins := rfl
@[simp] theorem present_pending (s : State) : (s.present).pending = s.pending := rfl

@[simp] theorem issue_time (s : State) (specs : List ShotSpec) : (s.issue specs).time = s.time := rfl
@[simp] theorem issue_ramp (s : State) (specs : List ShotSpec) : (s.issue specs).ramp = s.ramp := rfl
@[simp] theorem issue_retention (s : State) (specs : List ShotSpec) : (s.issue specs).retention = s.retention :=
  rfl
@[simp] theorem issue_session (s : State) (specs : List ShotSpec) : (s.issue specs).session = s.session := rfl
@[simp] theorem issue_rails (s : State) (specs : List ShotSpec) : (s.issue specs).rails = s.rails := rfl
@[simp] theorem issue_meas (s : State) (specs : List ShotSpec) : (s.issue specs).meas = s.meas := rfl
@[simp] theorem issue_store (s : State) (specs : List ShotSpec) : (s.issue specs).store = s.store := rfl
@[simp] theorem issue_settings (s : State) (specs : List ShotSpec) : (s.issue specs).settings = s.settings :=
  rfl
@[simp] theorem issue_counters (s : State) (specs : List ShotSpec) : (s.issue specs).counters = s.counters :=
  rfl
@[simp] theorem issue_flags (s : State) (specs : List ShotSpec) : (s.issue specs).flags = s.flags := rfl
@[simp] theorem issue_inputs (s : State) (specs : List ShotSpec) : (s.issue specs).inputs = s.inputs := rfl
@[simp] theorem issue_plink (s : State) (specs : List ShotSpec) : (s.issue specs).plink = s.plink := rfl
@[simp] theorem issue_pins (s : State) (specs : List ShotSpec) : (s.issue specs).pins = s.pins := rfl
@[simp] theorem issue_pending (s : State) (specs : List ShotSpec) : (s.issue specs).pending = s.pending := rfl

@[simp] theorem issueOrSkip_time (s : State) (specs : List ShotSpec) : (s.issueOrSkip specs).time = s.time :=
  by unfold State.issueOrSkip; split <;> simp
@[simp] theorem issueOrSkip_ramp (s : State) (specs : List ShotSpec) : (s.issueOrSkip specs).ramp = s.ramp :=
  by unfold State.issueOrSkip; split <;> simp
@[simp] theorem issueOrSkip_retention (s : State) (specs : List ShotSpec) : (s.issueOrSkip specs).retention = s.retention :=
  by unfold State.issueOrSkip; split <;> simp
@[simp] theorem issueOrSkip_session (s : State) (specs : List ShotSpec) : (s.issueOrSkip specs).session = s.session :=
  by unfold State.issueOrSkip; split <;> simp
@[simp] theorem issueOrSkip_rails (s : State) (specs : List ShotSpec) : (s.issueOrSkip specs).rails = s.rails :=
  by unfold State.issueOrSkip; split <;> simp
@[simp] theorem issueOrSkip_meas (s : State) (specs : List ShotSpec) : (s.issueOrSkip specs).meas = s.meas :=
  by unfold State.issueOrSkip; split <;> simp
@[simp] theorem issueOrSkip_store (s : State) (specs : List ShotSpec) : (s.issueOrSkip specs).store = s.store :=
  by unfold State.issueOrSkip; split <;> simp
@[simp] theorem issueOrSkip_settings (s : State) (specs : List ShotSpec) : (s.issueOrSkip specs).settings = s.settings :=
  by unfold State.issueOrSkip; split <;> simp
@[simp] theorem issueOrSkip_flags (s : State) (specs : List ShotSpec) : (s.issueOrSkip specs).flags = s.flags :=
  by unfold State.issueOrSkip; split <;> simp
@[simp] theorem issueOrSkip_inputs (s : State) (specs : List ShotSpec) : (s.issueOrSkip specs).inputs = s.inputs :=
  by unfold State.issueOrSkip; split <;> simp
@[simp] theorem issueOrSkip_plink (s : State) (specs : List ShotSpec) : (s.issueOrSkip specs).plink = s.plink :=
  by unfold State.issueOrSkip; split <;> simp
@[simp] theorem issueOrSkip_pins (s : State) (specs : List ShotSpec) : (s.issueOrSkip specs).pins = s.pins :=
  by unfold State.issueOrSkip; split <;> simp
@[simp] theorem issueOrSkip_pending (s : State) (specs : List ShotSpec) : (s.issueOrSkip specs).pending = s.pending :=
  by unfold State.issueOrSkip; split <;> simp

@[simp] theorem fillSlot_time (s : State) (p : PendingShot) : (s.fillSlot p).time = s.time := rfl
@[simp] theorem fillSlot_ramp (s : State) (p : PendingShot) : (s.fillSlot p).ramp = s.ramp := rfl
@[simp] theorem fillSlot_queue (s : State) (p : PendingShot) : (s.fillSlot p).queue = s.queue := rfl
@[simp] theorem fillSlot_retention (s : State) (p : PendingShot) : (s.fillSlot p).retention = s.retention := rfl
@[simp] theorem fillSlot_session (s : State) (p : PendingShot) : (s.fillSlot p).session = s.session := rfl
@[simp] theorem fillSlot_meas (s : State) (p : PendingShot) : (s.fillSlot p).meas = s.meas := rfl
@[simp] theorem fillSlot_store (s : State) (p : PendingShot) : (s.fillSlot p).store = s.store := rfl
@[simp] theorem fillSlot_settings (s : State) (p : PendingShot) : (s.fillSlot p).settings = s.settings := rfl
@[simp] theorem fillSlot_counters (s : State) (p : PendingShot) : (s.fillSlot p).counters = s.counters := rfl
@[simp] theorem fillSlot_flags (s : State) (p : PendingShot) : (s.fillSlot p).flags = s.flags := rfl
@[simp] theorem fillSlot_inputs (s : State) (p : PendingShot) : (s.fillSlot p).inputs = s.inputs := rfl
@[simp] theorem fillSlot_plink (s : State) (p : PendingShot) : (s.fillSlot p).plink = s.plink := rfl
@[simp] theorem fillSlot_slink (s : State) (p : PendingShot) : (s.fillSlot p).slink = s.slink := rfl
@[simp] theorem fillSlot_pins (s : State) (p : PendingShot) : (s.fillSlot p).pins = s.pins := rfl
@[simp] theorem fillSlot_pending (s : State) (p : PendingShot) : (s.fillSlot p).pending = s.pending := rfl

@[simp] theorem issuePending_time (s : State) : (s.issuePending).time = s.time :=
  by unfold State.issuePending; split <;> simp
@[simp] theorem issuePending_ramp (s : State) : (s.issuePending).ramp = s.ramp :=
  by unfold State.issuePending; split <;> simp
@[simp] theorem issuePending_retention (s : State) : (s.issuePending).retention = s.retention :=
  by unfold State.issuePending; split <;> simp
@[simp] theorem issuePending_session (s : State) : (s.issuePending).session = s.session :=
  by unfold State.issuePending; split <;> simp
@[simp] theorem issuePending_rails (s : State) : (s.issuePending).rails = s.rails :=
  by unfold State.issuePending; split <;> simp
@[simp] theorem issuePending_meas (s : State) : (s.issuePending).meas = s.meas :=
  by unfold State.issuePending; split <;> simp
@[simp] theorem issuePending_store (s : State) : (s.issuePending).store = s.store :=
  by unfold State.issuePending; split <;> simp
@[simp] theorem issuePending_settings (s : State) : (s.issuePending).settings = s.settings :=
  by unfold State.issuePending; split <;> simp
@[simp] theorem issuePending_flags (s : State) : (s.issuePending).flags = s.flags :=
  by unfold State.issuePending; split <;> simp
@[simp] theorem issuePending_inputs (s : State) : (s.issuePending).inputs = s.inputs :=
  by unfold State.issuePending; split <;> simp
@[simp] theorem issuePending_plink (s : State) : (s.issuePending).plink = s.plink :=
  by unfold State.issuePending; split <;> simp
@[simp] theorem issuePending_pins (s : State) : (s.issuePending).pins = s.pins :=
  by unfold State.issuePending; split <;> simp
@[simp] theorem issuePending_pending (s : State) : (s.issuePending).pending = s.pending :=
  by unfold State.issuePending; split <;> simp

@[simp] theorem handleShot_time (s : State) (k : PendingKind) : (s.handleShot k).time = s.time :=
  by unfold State.handleShot; (repeat' split) <;> simp
@[simp] theorem handleShot_ramp (s : State) (k : PendingKind) : (s.handleShot k).ramp = s.ramp :=
  by unfold State.handleShot; (repeat' split) <;> simp
@[simp] theorem handleShot_retention (s : State) (k : PendingKind) : (s.handleShot k).retention = s.retention :=
  by unfold State.handleShot; (repeat' split) <;> simp
@[simp] theorem handleShot_session (s : State) (k : PendingKind) : (s.handleShot k).session = s.session :=
  by unfold State.handleShot; (repeat' split) <;> simp
@[simp] theorem handleShot_meas (s : State) (k : PendingKind) : (s.handleShot k).meas = s.meas :=
  by unfold State.handleShot; (repeat' split) <;> simp
@[simp] theorem handleShot_store (s : State) (k : PendingKind) : (s.handleShot k).store = s.store :=
  by unfold State.handleShot; (repeat' split) <;> simp
@[simp] theorem handleShot_settings (s : State) (k : PendingKind) : (s.handleShot k).settings = s.settings :=
  by unfold State.handleShot; (repeat' split) <;> simp
@[simp] theorem handleShot_flags (s : State) (k : PendingKind) : (s.handleShot k).flags = s.flags :=
  by unfold State.handleShot; (repeat' split) <;> simp
@[simp] theorem handleShot_inputs (s : State) (k : PendingKind) : (s.handleShot k).inputs = s.inputs :=
  by unfold State.handleShot; (repeat' split) <;> simp
@[simp] theorem handleShot_plink (s : State) (k : PendingKind) : (s.handleShot k).plink = s.plink :=
  by unfold State.handleShot; (repeat' split) <;> simp
@[simp] theorem handleShot_pins (s : State) (k : PendingKind) : (s.handleShot k).pins = s.pins :=
  by unfold State.handleShot; (repeat' split) <;> simp
@[simp] theorem handleShot_pending (s : State) (k : PendingKind) : (s.handleShot k).pending = s.pending :=
  by unfold State.handleShot; (repeat' split) <;> simp

@[simp] theorem takeDueShot_time (s : State) (k : PendingKind) (b : Bool) : (s.takeDueShot k b).time = s.time :=
  by unfold State.takeDueShot; (repeat' split) <;> simp
@[simp] theorem takeDueShot_ramp (s : State) (k : PendingKind) (b : Bool) : (s.takeDueShot k b).ramp = s.ramp :=
  by unfold State.takeDueShot; (repeat' split) <;> simp
@[simp] theorem takeDueShot_retention (s : State) (k : PendingKind) (b : Bool) : (s.takeDueShot k b).retention = s.retention :=
  by unfold State.takeDueShot; (repeat' split) <;> simp
@[simp] theorem takeDueShot_session (s : State) (k : PendingKind) (b : Bool) : (s.takeDueShot k b).session = s.session :=
  by unfold State.takeDueShot; (repeat' split) <;> simp
@[simp] theorem takeDueShot_meas (s : State) (k : PendingKind) (b : Bool) : (s.takeDueShot k b).meas = s.meas :=
  by unfold State.takeDueShot; (repeat' split) <;> simp
@[simp] theorem takeDueShot_store (s : State) (k : PendingKind) (b : Bool) : (s.takeDueShot k b).store = s.store :=
  by unfold State.takeDueShot; (repeat' split) <;> simp
@[simp] theorem takeDueShot_settings (s : State) (k : PendingKind) (b : Bool) : (s.takeDueShot k b).settings = s.settings :=
  by unfold State.takeDueShot; (repeat' split) <;> simp
@[simp] theorem takeDueShot_flags (s : State) (k : PendingKind) (b : Bool) : (s.takeDueShot k b).flags = s.flags :=
  by unfold State.takeDueShot; (repeat' split) <;> simp
@[simp] theorem takeDueShot_inputs (s : State) (k : PendingKind) (b : Bool) : (s.takeDueShot k b).inputs = s.inputs :=
  by unfold State.takeDueShot; (repeat' split) <;> simp
@[simp] theorem takeDueShot_plink (s : State) (k : PendingKind) (b : Bool) : (s.takeDueShot k b).plink = s.plink :=
  by unfold State.takeDueShot; (repeat' split) <;> simp
@[simp] theorem takeDueShot_pins (s : State) (k : PendingKind) (b : Bool) : (s.takeDueShot k b).pins = s.pins :=
  by unfold State.takeDueShot; (repeat' split) <;> simp
@[simp] theorem takeDueShot_pending (s : State) (k : PendingKind) (b : Bool) : (s.takeDueShot k b).pending = s.pending :=
  by unfold State.takeDueShot; (repeat' split) <;> simp

@[simp] theorem selectWindow_time (s : State) : (s.selectWindow).time = s.time :=
  by unfold State.selectWindow; split <;> simp
@[simp] theorem selectWindow_ramp (s : State) : (s.selectWindow).ramp = s.ramp :=
  by unfold State.selectWindow; split <;> simp
@[simp] theorem selectWindow_queue (s : State) : (s.selectWindow).queue = s.queue :=
  by unfold State.selectWindow; split <;> simp
@[simp] theorem selectWindow_retention (s : State) : (s.selectWindow).retention = s.retention :=
  by unfold State.selectWindow; split <;> simp
@[simp] theorem selectWindow_session (s : State) : (s.selectWindow).session = s.session :=
  by unfold State.selectWindow; split <;> simp
@[simp] theorem selectWindow_rails (s : State) : (s.selectWindow).rails = s.rails :=
  by unfold State.selectWindow; split <;> simp
@[simp] theorem selectWindow_meas (s : State) : (s.selectWindow).meas = s.meas :=
  by unfold State.selectWindow; split <;> simp
@[simp] theorem selectWindow_store (s : State) : (s.selectWindow).store = s.store :=
  by unfold State.selectWindow; split <;> simp
@[simp] theorem selectWindow_settings (s : State) : (s.selectWindow).settings = s.settings :=
  by unfold State.selectWindow; split <;> simp
@[simp] theorem selectWindow_counters (s : State) : (s.selectWindow).counters = s.counters :=
  by unfold State.selectWindow; split <;> simp
@[simp] theorem selectWindow_flags (s : State) : (s.selectWindow).flags = s.flags :=
  by unfold State.selectWindow; split <;> simp
@[simp] theorem selectWindow_inputs (s : State) : (s.selectWindow).inputs = s.inputs :=
  by unfold State.selectWindow; split <;> simp
@[simp] theorem selectWindow_plink (s : State) : (s.selectWindow).plink = s.plink :=
  by unfold State.selectWindow; split <;> simp
@[simp] theorem selectWindow_slink (s : State) : (s.selectWindow).slink = s.slink :=
  by unfold State.selectWindow; split <;> simp
@[simp] theorem selectWindow_pins (s : State) : (s.selectWindow).pins = s.pins :=
  by unfold State.selectWindow; split <;> simp
@[simp] theorem selectWindow_pending (s : State) : (s.selectWindow).pending = s.pending :=
  by unfold State.selectWindow; split <;> simp

@[simp] theorem entryClamp_time (s : State) : (s.entryClamp).time = s.time :=
  by unfold State.entryClamp; split <;> simp
@[simp] theorem entryClamp_sched (s : State) : (s.entryClamp).sched = s.sched :=
  by unfold State.entryClamp; split <;> simp
@[simp] theorem entryClamp_queue (s : State) : (s.entryClamp).queue = s.queue :=
  by unfold State.entryClamp; split <;> simp
@[simp] theorem entryClamp_retention (s : State) : (s.entryClamp).retention = s.retention :=
  by unfold State.entryClamp; split <;> simp
@[simp] theorem entryClamp_session (s : State) : (s.entryClamp).session = s.session :=
  by unfold State.entryClamp; split <;> simp
@[simp] theorem entryClamp_rails (s : State) : (s.entryClamp).rails = s.rails :=
  by unfold State.entryClamp; split <;> simp
@[simp] theorem entryClamp_meas (s : State) : (s.entryClamp).meas = s.meas :=
  by unfold State.entryClamp; split <;> simp
@[simp] theorem entryClamp_store (s : State) : (s.entryClamp).store = s.store :=
  by unfold State.entryClamp; split <;> simp
@[simp] theorem entryClamp_settings (s : State) : (s.entryClamp).settings = s.settings :=
  by unfold State.entryClamp; split <;> simp
@[simp] theorem entryClamp_counters (s : State) : (s.entryClamp).counters = s.counters :=
  by unfold State.entryClamp; split <;> simp
@[simp] theorem entryClamp_flags (s : State) : (s.entryClamp).flags = s.flags :=
  by unfold State.entryClamp; split <;> simp
@[simp] theorem entryClamp_inputs (s : State) : (s.entryClamp).inputs = s.inputs :=
  by unfold State.entryClamp; split <;> simp
@[simp] theorem entryClamp_plink (s : State) : (s.entryClamp).plink = s.plink :=
  by unfold State.entryClamp; split <;> simp
@[simp] theorem entryClamp_slink (s : State) : (s.entryClamp).slink = s.slink :=
  by unfold State.entryClamp; split <;> simp
@[simp] theorem entryClamp_pins (s : State) : (s.entryClamp).pins = s.pins :=
  by unfold State.entryClamp; split <;> simp
@[simp] theorem entryClamp_pending (s : State) : (s.entryClamp).pending = s.pending :=
  by unfold State.entryClamp; split <;> simp

@[simp] theorem swapClamp_time (s : State) : (s.swapClamp).time = s.time := rfl
@[simp] theorem swapClamp_sched (s : State) : (s.swapClamp).sched = s.sched := rfl
@[simp] theorem swapClamp_queue (s : State) : (s.swapClamp).queue = s.queue := rfl
@[simp] theorem swapClamp_retention (s : State) : (s.swapClamp).retention = s.retention := rfl
@[simp] theorem swapClamp_session (s : State) : (s.swapClamp).session = s.session := rfl
@[simp] theorem swapClamp_rails (s : State) : (s.swapClamp).rails = s.rails := rfl
@[simp] theorem swapClamp_meas (s : State) : (s.swapClamp).meas = s.meas := rfl
@[simp] theorem swapClamp_store (s : State) : (s.swapClamp).store = s.store := rfl
@[simp] theorem swapClamp_settings (s : State) : (s.swapClamp).settings = s.settings := rfl
@[simp] theorem swapClamp_counters (s : State) : (s.swapClamp).counters = s.counters := rfl
@[simp] theorem swapClamp_flags (s : State) : (s.swapClamp).flags = s.flags := rfl
@[simp] theorem swapClamp_inputs (s : State) : (s.swapClamp).inputs = s.inputs := rfl
@[simp] theorem swapClamp_plink (s : State) : (s.swapClamp).plink = s.plink := rfl
@[simp] theorem swapClamp_slink (s : State) : (s.swapClamp).slink = s.slink := rfl
@[simp] theorem swapClamp_pins (s : State) : (s.swapClamp).pins = s.pins := rfl
@[simp] theorem swapClamp_pending (s : State) : (s.swapClamp).pending = s.pending := rfl

@[simp] theorem enterSilently_time (s : State) : (s.enterSilently).time = s.time :=
  by unfold State.enterSilently; split <;> simp
@[simp] theorem enterSilently_queue (s : State) : (s.enterSilently).queue = s.queue :=
  by unfold State.enterSilently; split <;> simp
@[simp] theorem enterSilently_retention (s : State) : (s.enterSilently).retention = s.retention :=
  by unfold State.enterSilently; split <;> simp
@[simp] theorem enterSilently_session (s : State) : (s.enterSilently).session = s.session :=
  by unfold State.enterSilently; split <;> simp
@[simp] theorem enterSilently_rails (s : State) : (s.enterSilently).rails = s.rails :=
  by unfold State.enterSilently; split <;> simp
@[simp] theorem enterSilently_meas (s : State) : (s.enterSilently).meas = s.meas :=
  by unfold State.enterSilently; split <;> simp
@[simp] theorem enterSilently_store (s : State) : (s.enterSilently).store = s.store :=
  by unfold State.enterSilently; split <;> simp
@[simp] theorem enterSilently_settings (s : State) : (s.enterSilently).settings = s.settings :=
  by unfold State.enterSilently; split <;> simp
@[simp] theorem enterSilently_counters (s : State) : (s.enterSilently).counters = s.counters :=
  by unfold State.enterSilently; split <;> simp
@[simp] theorem enterSilently_flags (s : State) : (s.enterSilently).flags = s.flags :=
  by unfold State.enterSilently; split <;> simp
@[simp] theorem enterSilently_inputs (s : State) : (s.enterSilently).inputs = s.inputs :=
  by unfold State.enterSilently; split <;> simp
@[simp] theorem enterSilently_plink (s : State) : (s.enterSilently).plink = s.plink :=
  by unfold State.enterSilently; split <;> simp
@[simp] theorem enterSilently_slink (s : State) : (s.enterSilently).slink = s.slink :=
  by unfold State.enterSilently; split <;> simp
@[simp] theorem enterSilently_pins (s : State) : (s.enterSilently).pins = s.pins :=
  by unfold State.enterSilently; split <;> simp
@[simp] theorem enterSilently_pending (s : State) : (s.enterSilently).pending = s.pending :=
  by unfold State.enterSilently; split <;> simp

@[simp] theorem enterRow_time (s : State) (i : Nat) : (s.enterRow i).time = s.time :=
  by unfold State.enterRow; simp
@[simp] theorem enterRow_queue (s : State) (i : Nat) : (s.enterRow i).queue = s.queue :=
  by unfold State.enterRow; simp
@[simp] theorem enterRow_retention (s : State) (i : Nat) : (s.enterRow i).retention = s.retention :=
  by unfold State.enterRow; simp
@[simp] theorem enterRow_session (s : State) (i : Nat) : (s.enterRow i).session = s.session :=
  by unfold State.enterRow; simp
@[simp] theorem enterRow_rails (s : State) (i : Nat) : (s.enterRow i).rails = s.rails :=
  by unfold State.enterRow; simp
@[simp] theorem enterRow_meas (s : State) (i : Nat) : (s.enterRow i).meas = s.meas :=
  by unfold State.enterRow; simp
@[simp] theorem enterRow_store (s : State) (i : Nat) : (s.enterRow i).store = s.store :=
  by unfold State.enterRow; simp
@[simp] theorem enterRow_settings (s : State) (i : Nat) : (s.enterRow i).settings = s.settings :=
  by unfold State.enterRow; simp
@[simp] theorem enterRow_counters (s : State) (i : Nat) : (s.enterRow i).counters = s.counters :=
  by unfold State.enterRow; simp
@[simp] theorem enterRow_flags (s : State) (i : Nat) : (s.enterRow i).flags = s.flags :=
  by unfold State.enterRow; simp
@[simp] theorem enterRow_inputs (s : State) (i : Nat) : (s.enterRow i).inputs = s.inputs :=
  by unfold State.enterRow; simp
@[simp] theorem enterRow_plink (s : State) (i : Nat) : (s.enterRow i).plink = s.plink :=
  by unfold State.enterRow; simp
@[simp] theorem enterRow_slink (s : State) (i : Nat) : (s.enterRow i).slink = s.slink :=
  by unfold State.enterRow; simp
@[simp] theorem enterRow_pins (s : State) (i : Nat) : (s.enterRow i).pins = s.pins :=
  by unfold State.enterRow; simp
@[simp] theorem enterRow_pending (s : State) (i : Nat) : (s.enterRow i).pending = s.pending :=
  by unfold State.enterRow; simp

@[simp] theorem exchangeTables_time (s : State) (ts : List Table) : (s.exchangeTables ts).time = s.time := rfl
@[simp] theorem exchangeTables_sched (s : State) (ts : List Table) : (s.exchangeTables ts).sched = s.sched :=
  rfl
@[simp] theorem exchangeTables_ramp (s : State) (ts : List Table) : (s.exchangeTables ts).ramp = s.ramp := rfl
@[simp] theorem exchangeTables_queue (s : State) (ts : List Table) : (s.exchangeTables ts).queue = s.queue :=
  rfl
@[simp] theorem exchangeTables_session (s : State) (ts : List Table) : (s.exchangeTables ts).session = s.session :=
  rfl
@[simp] theorem exchangeTables_settings (s : State) (ts : List Table) : (s.exchangeTables ts).settings = s.settings :=
  rfl
@[simp] theorem exchangeTables_counters (s : State) (ts : List Table) : (s.exchangeTables ts).counters = s.counters :=
  rfl
@[simp] theorem exchangeTables_flags (s : State) (ts : List Table) : (s.exchangeTables ts).flags = s.flags :=
  rfl
@[simp] theorem exchangeTables_inputs (s : State) (ts : List Table) : (s.exchangeTables ts).inputs = s.inputs :=
  rfl
@[simp] theorem exchangeTables_plink (s : State) (ts : List Table) : (s.exchangeTables ts).plink = s.plink :=
  rfl
@[simp] theorem exchangeTables_slink (s : State) (ts : List Table) : (s.exchangeTables ts).slink = s.slink :=
  rfl
@[simp] theorem exchangeTables_pins (s : State) (ts : List Table) : (s.exchangeTables ts).pins = s.pins := rfl
@[simp] theorem exchangeTables_pending (s : State) (ts : List Table) : (s.exchangeTables ts).pending = s.pending :=
  rfl

@[simp] theorem rampAfterSwap_time (s : State) (ts : List Table) : (s.rampAfterSwap ts).time = s.time :=
  by unfold State.rampAfterSwap; (repeat' split) <;> simp
@[simp] theorem rampAfterSwap_sched (s : State) (ts : List Table) : (s.rampAfterSwap ts).sched = s.sched :=
  by unfold State.rampAfterSwap; (repeat' split) <;> simp
@[simp] theorem rampAfterSwap_queue (s : State) (ts : List Table) : (s.rampAfterSwap ts).queue = s.queue :=
  by unfold State.rampAfterSwap; (repeat' split) <;> simp
@[simp] theorem rampAfterSwap_retention (s : State) (ts : List Table) : (s.rampAfterSwap ts).retention = s.retention :=
  by unfold State.rampAfterSwap; (repeat' split) <;> simp
@[simp] theorem rampAfterSwap_session (s : State) (ts : List Table) : (s.rampAfterSwap ts).session = s.session :=
  by unfold State.rampAfterSwap; (repeat' split) <;> simp
@[simp] theorem rampAfterSwap_rails (s : State) (ts : List Table) : (s.rampAfterSwap ts).rails = s.rails :=
  by unfold State.rampAfterSwap; (repeat' split) <;> simp
@[simp] theorem rampAfterSwap_meas (s : State) (ts : List Table) : (s.rampAfterSwap ts).meas = s.meas :=
  by unfold State.rampAfterSwap; (repeat' split) <;> simp
@[simp] theorem rampAfterSwap_store (s : State) (ts : List Table) : (s.rampAfterSwap ts).store = s.store :=
  by unfold State.rampAfterSwap; (repeat' split) <;> simp
@[simp] theorem rampAfterSwap_settings (s : State) (ts : List Table) : (s.rampAfterSwap ts).settings = s.settings :=
  by unfold State.rampAfterSwap; (repeat' split) <;> simp
@[simp] theorem rampAfterSwap_counters (s : State) (ts : List Table) : (s.rampAfterSwap ts).counters = s.counters :=
  by unfold State.rampAfterSwap; (repeat' split) <;> simp
@[simp] theorem rampAfterSwap_flags (s : State) (ts : List Table) : (s.rampAfterSwap ts).flags = s.flags :=
  by unfold State.rampAfterSwap; (repeat' split) <;> simp
@[simp] theorem rampAfterSwap_inputs (s : State) (ts : List Table) : (s.rampAfterSwap ts).inputs = s.inputs :=
  by unfold State.rampAfterSwap; (repeat' split) <;> simp
@[simp] theorem rampAfterSwap_plink (s : State) (ts : List Table) : (s.rampAfterSwap ts).plink = s.plink :=
  by unfold State.rampAfterSwap; (repeat' split) <;> simp
@[simp] theorem rampAfterSwap_slink (s : State) (ts : List Table) : (s.rampAfterSwap ts).slink = s.slink :=
  by unfold State.rampAfterSwap; (repeat' split) <;> simp
@[simp] theorem rampAfterSwap_pins (s : State) (ts : List Table) : (s.rampAfterSwap ts).pins = s.pins :=
  by unfold State.rampAfterSwap; (repeat' split) <;> simp
@[simp] theorem rampAfterSwap_pending (s : State) (ts : List Table) : (s.rampAfterSwap ts).pending = s.pending :=
  by unfold State.rampAfterSwap; (repeat' split) <;> simp

@[simp] theorem swap_time (s : State) (ts : List Table) : (s.swap ts).time = s.time :=
  by unfold State.swap; split <;> simp
@[simp] theorem swap_queue (s : State) (ts : List Table) : (s.swap ts).queue = s.queue :=
  by unfold State.swap; split <;> simp
@[simp] theorem swap_session (s : State) (ts : List Table) : (s.swap ts).session = s.session :=
  by unfold State.swap; split <;> simp
@[simp] theorem swap_settings (s : State) (ts : List Table) : (s.swap ts).settings = s.settings :=
  by unfold State.swap; split <;> simp
@[simp] theorem swap_counters (s : State) (ts : List Table) : (s.swap ts).counters = s.counters :=
  by unfold State.swap; split <;> simp
@[simp] theorem swap_flags (s : State) (ts : List Table) : (s.swap ts).flags = s.flags :=
  by unfold State.swap; split <;> simp
@[simp] theorem swap_inputs (s : State) (ts : List Table) : (s.swap ts).inputs = s.inputs :=
  by unfold State.swap; split <;> simp
@[simp] theorem swap_plink (s : State) (ts : List Table) : (s.swap ts).plink = s.plink :=
  by unfold State.swap; split <;> simp
@[simp] theorem swap_slink (s : State) (ts : List Table) : (s.swap ts).slink = s.slink :=
  by unfold State.swap; split <;> simp
@[simp] theorem swap_pins (s : State) (ts : List Table) : (s.swap ts).pins = s.pins :=
  by unfold State.swap; split <;> simp
@[simp] theorem swap_pending (s : State) (ts : List Table) : (s.swap ts).pending = s.pending :=
  by unfold State.swap; split <;> simp

@[simp] theorem makeCommit_time (s : State) (ps : List CommitPoint) : (s.makeCommit ps).time = s.time :=
  by unfold State.makeCommit; (repeat' split) <;> simp
@[simp] theorem makeCommit_queue (s : State) (ps : List CommitPoint) : (s.makeCommit ps).queue = s.queue :=
  by unfold State.makeCommit; (repeat' split) <;> simp
@[simp] theorem makeCommit_session (s : State) (ps : List CommitPoint) : (s.makeCommit ps).session = s.session :=
  by unfold State.makeCommit; (repeat' split) <;> simp
@[simp] theorem makeCommit_settings (s : State) (ps : List CommitPoint) : (s.makeCommit ps).settings = s.settings :=
  by unfold State.makeCommit; (repeat' split) <;> simp
@[simp] theorem makeCommit_counters (s : State) (ps : List CommitPoint) : (s.makeCommit ps).counters = s.counters :=
  by unfold State.makeCommit; (repeat' split) <;> simp
@[simp] theorem makeCommit_flags (s : State) (ps : List CommitPoint) : (s.makeCommit ps).flags = s.flags :=
  by unfold State.makeCommit; (repeat' split) <;> simp
@[simp] theorem makeCommit_inputs (s : State) (ps : List CommitPoint) : (s.makeCommit ps).inputs = s.inputs :=
  by unfold State.makeCommit; (repeat' split) <;> simp
@[simp] theorem makeCommit_plink (s : State) (ps : List CommitPoint) : (s.makeCommit ps).plink = s.plink :=
  by unfold State.makeCommit; (repeat' split) <;> simp
@[simp] theorem makeCommit_slink (s : State) (ps : List CommitPoint) : (s.makeCommit ps).slink = s.slink :=
  by unfold State.makeCommit; (repeat' split) <;> simp
@[simp] theorem makeCommit_pins (s : State) (ps : List CommitPoint) : (s.makeCommit ps).pins = s.pins :=
  by unfold State.makeCommit; (repeat' split) <;> simp
@[simp] theorem makeCommit_pending (s : State) (ps : List CommitPoint) : (s.makeCommit ps).pending = s.pending :=
  by unfold State.makeCommit; (repeat' split) <;> simp

@[simp] theorem scheduledShotDue_time (s : State) : (s.scheduledShotDue).time = s.time :=
  by unfold State.scheduledShotDue; simp
@[simp] theorem scheduledShotDue_session (s : State) : (s.scheduledShotDue).session = s.session :=
  by unfold State.scheduledShotDue; simp
@[simp] theorem scheduledShotDue_settings (s : State) : (s.scheduledShotDue).settings = s.settings :=
  by unfold State.scheduledShotDue; simp
@[simp] theorem scheduledShotDue_flags (s : State) : (s.scheduledShotDue).flags = s.flags :=
  by unfold State.scheduledShotDue; simp
@[simp] theorem scheduledShotDue_inputs (s : State) : (s.scheduledShotDue).inputs = s.inputs :=
  by unfold State.scheduledShotDue; simp
@[simp] theorem scheduledShotDue_plink (s : State) : (s.scheduledShotDue).plink = s.plink :=
  by unfold State.scheduledShotDue; simp
@[simp] theorem scheduledShotDue_pins (s : State) : (s.scheduledShotDue).pins = s.pins :=
  by unfold State.scheduledShotDue; simp
@[simp] theorem scheduledShotDue_pending (s : State) : (s.scheduledShotDue).pending = s.pending :=
  by unfold State.scheduledShotDue; simp

@[simp] theorem ageTimers_time (s : State) (n : Nat) : (s.ageTimers n).time = s.time := rfl
@[simp] theorem ageTimers_ramp (s : State) (n : Nat) : (s.ageTimers n).ramp = s.ramp := rfl
@[simp] theorem ageTimers_retention (s : State) (n : Nat) : (s.ageTimers n).retention = s.retention := rfl
@[simp] theorem ageTimers_store (s : State) (n : Nat) : (s.ageTimers n).store = s.store := rfl
@[simp] theorem ageTimers_settings (s : State) (n : Nat) : (s.ageTimers n).settings = s.settings := rfl
@[simp] theorem ageTimers_counters (s : State) (n : Nat) : (s.ageTimers n).counters = s.counters := rfl
@[simp] theorem ageTimers_flags (s : State) (n : Nat) : (s.ageTimers n).flags = s.flags := rfl
@[simp] theorem ageTimers_inputs (s : State) (n : Nat) : (s.ageTimers n).inputs = s.inputs := rfl
@[simp] theorem ageTimers_pins (s : State) (n : Nat) : (s.ageTimers n).pins = s.pins := rfl
@[simp] theorem ageTimers_pending (s : State) (n : Nat) : (s.ageTimers n).pending = s.pending := rfl

@[simp] theorem rollover_time (s : State) (b : TimeBase) : (s.rollover b).time = s.time :=
  by unfold State.rollover; split <;> simp
@[simp] theorem rollover_sched (s : State) (b : TimeBase) : (s.rollover b).sched = s.sched :=
  by unfold State.rollover; split <;> simp
@[simp] theorem rollover_ramp (s : State) (b : TimeBase) : (s.rollover b).ramp = s.ramp :=
  by unfold State.rollover; split <;> simp
@[simp] theorem rollover_queue (s : State) (b : TimeBase) : (s.rollover b).queue = s.queue :=
  by unfold State.rollover; split <;> simp
@[simp] theorem rollover_retention (s : State) (b : TimeBase) : (s.rollover b).retention = s.retention :=
  by unfold State.rollover; split <;> simp
@[simp] theorem rollover_rails (s : State) (b : TimeBase) : (s.rollover b).rails = s.rails :=
  by unfold State.rollover; split <;> simp
@[simp] theorem rollover_meas (s : State) (b : TimeBase) : (s.rollover b).meas = s.meas :=
  by unfold State.rollover; split <;> simp
@[simp] theorem rollover_store (s : State) (b : TimeBase) : (s.rollover b).store = s.store :=
  by unfold State.rollover; split <;> simp
@[simp] theorem rollover_settings (s : State) (b : TimeBase) : (s.rollover b).settings = s.settings :=
  by unfold State.rollover; split <;> simp
@[simp] theorem rollover_counters (s : State) (b : TimeBase) : (s.rollover b).counters = s.counters :=
  by unfold State.rollover; split <;> simp
@[simp] theorem rollover_flags (s : State) (b : TimeBase) : (s.rollover b).flags = s.flags :=
  by unfold State.rollover; split <;> simp
@[simp] theorem rollover_inputs (s : State) (b : TimeBase) : (s.rollover b).inputs = s.inputs :=
  by unfold State.rollover; split <;> simp
@[simp] theorem rollover_plink (s : State) (b : TimeBase) : (s.rollover b).plink = s.plink :=
  by unfold State.rollover; split <;> simp
@[simp] theorem rollover_slink (s : State) (b : TimeBase) : (s.rollover b).slink = s.slink :=
  by unfold State.rollover; split <;> simp
@[simp] theorem rollover_pins (s : State) (b : TimeBase) : (s.rollover b).pins = s.pins :=
  by unfold State.rollover; split <;> simp
@[simp] theorem rollover_pending (s : State) (b : TimeBase) : (s.rollover b).pending = s.pending :=
  by unfold State.rollover; split <;> simp

@[simp] theorem passingEntry_time (s : State) : (s.passingEntry).time = s.time :=
  by simp only [State.passingEntry]; (repeat' split) <;> simp
@[simp] theorem passingEntry_queue (s : State) : (s.passingEntry).queue = s.queue :=
  by simp only [State.passingEntry]; (repeat' split) <;> simp
@[simp] theorem passingEntry_session (s : State) : (s.passingEntry).session = s.session :=
  by simp only [State.passingEntry]; (repeat' split) <;> simp
@[simp] theorem passingEntry_settings (s : State) : (s.passingEntry).settings = s.settings :=
  by simp only [State.passingEntry]; (repeat' split) <;> simp
@[simp] theorem passingEntry_counters (s : State) : (s.passingEntry).counters = s.counters :=
  by simp only [State.passingEntry]; (repeat' split) <;> simp
@[simp] theorem passingEntry_flags (s : State) : (s.passingEntry).flags = s.flags :=
  by simp only [State.passingEntry]; (repeat' split) <;> simp
@[simp] theorem passingEntry_inputs (s : State) : (s.passingEntry).inputs = s.inputs :=
  by simp only [State.passingEntry]; (repeat' split) <;> simp
@[simp] theorem passingEntry_plink (s : State) : (s.passingEntry).plink = s.plink :=
  by simp only [State.passingEntry]; (repeat' split) <;> simp
@[simp] theorem passingEntry_slink (s : State) : (s.passingEntry).slink = s.slink :=
  by simp only [State.passingEntry]; (repeat' split) <;> simp
@[simp] theorem passingEntry_pins (s : State) : (s.passingEntry).pins = s.pins :=
  by simp only [State.passingEntry]; (repeat' split) <;> simp
@[simp] theorem passingEntry_pending (s : State) : (s.passingEntry).pending = s.pending :=
  by simp only [State.passingEntry]; (repeat' split) <;> simp

@[simp] theorem countElapsed_time (s : State) : (s.countElapsed).time = s.time := rfl
@[simp] theorem countElapsed_ramp (s : State) : (s.countElapsed).ramp = s.ramp := rfl
@[simp] theorem countElapsed_queue (s : State) : (s.countElapsed).queue = s.queue := rfl
@[simp] theorem countElapsed_retention (s : State) : (s.countElapsed).retention = s.retention := rfl
@[simp] theorem countElapsed_session (s : State) : (s.countElapsed).session = s.session := rfl
@[simp] theorem countElapsed_rails (s : State) : (s.countElapsed).rails = s.rails := rfl
@[simp] theorem countElapsed_meas (s : State) : (s.countElapsed).meas = s.meas := rfl
@[simp] theorem countElapsed_store (s : State) : (s.countElapsed).store = s.store := rfl
@[simp] theorem countElapsed_settings (s : State) : (s.countElapsed).settings = s.settings := rfl
@[simp] theorem countElapsed_counters (s : State) : (s.countElapsed).counters = s.counters := rfl
@[simp] theorem countElapsed_flags (s : State) : (s.countElapsed).flags = s.flags := rfl
@[simp] theorem countElapsed_inputs (s : State) : (s.countElapsed).inputs = s.inputs := rfl
@[simp] theorem countElapsed_plink (s : State) : (s.countElapsed).plink = s.plink := rfl
@[simp] theorem countElapsed_slink (s : State) : (s.countElapsed).slink = s.slink := rfl
@[simp] theorem countElapsed_pins (s : State) : (s.countElapsed).pins = s.pins := rfl
@[simp] theorem countElapsed_pending (s : State) : (s.countElapsed).pending = s.pending := rfl

@[simp] theorem tickEntry_time (s : State) (w : Bool) : (s.tickEntry w).time = s.time :=
  by unfold State.tickEntry; split <;> simp
@[simp] theorem tickEntry_queue (s : State) (w : Bool) : (s.tickEntry w).queue = s.queue :=
  by unfold State.tickEntry; split <;> simp
@[simp] theorem tickEntry_session (s : State) (w : Bool) : (s.tickEntry w).session = s.session :=
  by unfold State.tickEntry; split <;> simp
@[simp] theorem tickEntry_settings (s : State) (w : Bool) : (s.tickEntry w).settings = s.settings :=
  by unfold State.tickEntry; split <;> simp
@[simp] theorem tickEntry_counters (s : State) (w : Bool) : (s.tickEntry w).counters = s.counters :=
  by unfold State.tickEntry; split <;> simp
@[simp] theorem tickEntry_flags (s : State) (w : Bool) : (s.tickEntry w).flags = s.flags :=
  by unfold State.tickEntry; split <;> simp
@[simp] theorem tickEntry_inputs (s : State) (w : Bool) : (s.tickEntry w).inputs = s.inputs :=
  by unfold State.tickEntry; split <;> simp
@[simp] theorem tickEntry_plink (s : State) (w : Bool) : (s.tickEntry w).plink = s.plink :=
  by unfold State.tickEntry; split <;> simp
@[simp] theorem tickEntry_slink (s : State) (w : Bool) : (s.tickEntry w).slink = s.slink :=
  by unfold State.tickEntry; split <;> simp
@[simp] theorem tickEntry_pins (s : State) (w : Bool) : (s.tickEntry w).pins = s.pins :=
  by unfold State.tickEntry; split <;> simp
@[simp] theorem tickEntry_pending (s : State) (w : Bool) : (s.tickEntry w).pending = s.pending :=
  by unfold State.tickEntry; split <;> simp

@[simp] theorem schedulerTick_time (s : State) (w : Bool) : (s.schedulerTick w).time = s.time :=
  by unfold State.schedulerTick; (repeat' split) <;> simp
@[simp] theorem schedulerTick_session (s : State) (w : Bool) : (s.schedulerTick w).session = s.session :=
  by unfold State.schedulerTick; (repeat' split) <;> simp
@[simp] theorem schedulerTick_settings (s : State) (w : Bool) : (s.schedulerTick w).settings = s.settings :=
  by unfold State.schedulerTick; (repeat' split) <;> simp
@[simp] theorem schedulerTick_flags (s : State) (w : Bool) : (s.schedulerTick w).flags = s.flags :=
  by unfold State.schedulerTick; (repeat' split) <;> simp
@[simp] theorem schedulerTick_inputs (s : State) (w : Bool) : (s.schedulerTick w).inputs = s.inputs :=
  by unfold State.schedulerTick; (repeat' split) <;> simp
@[simp] theorem schedulerTick_plink (s : State) (w : Bool) : (s.schedulerTick w).plink = s.plink :=
  by unfold State.schedulerTick; (repeat' split) <;> simp
@[simp] theorem schedulerTick_pins (s : State) (w : Bool) : (s.schedulerTick w).pins = s.pins :=
  by unfold State.schedulerTick; (repeat' split) <;> simp
@[simp] theorem schedulerTick_pending (s : State) (w : Bool) : (s.schedulerTick w).pending = s.pending :=
  by unfold State.schedulerTick; (repeat' split) <;> simp

@[simp] theorem holdMain_time (s : State) : (s.holdMain).time = s.time := rfl
@[simp] theorem holdMain_sched (s : State) : (s.holdMain).sched = s.sched := rfl
@[simp] theorem holdMain_ramp (s : State) : (s.holdMain).ramp = s.ramp := rfl
@[simp] theorem holdMain_retention (s : State) : (s.holdMain).retention = s.retention := rfl
@[simp] theorem holdMain_settings (s : State) : (s.holdMain).settings = s.settings := rfl
@[simp] theorem holdMain_flags (s : State) : (s.holdMain).flags = s.flags := rfl
@[simp] theorem holdMain_inputs (s : State) : (s.holdMain).inputs = s.inputs := rfl
@[simp] theorem holdMain_pins (s : State) : (s.holdMain).pins = s.pins := rfl
@[simp] theorem holdMain_pending (s : State) : (s.holdMain).pending = s.pending := rfl

@[simp] theorem enterDomain_sched (s : State) (d : Domain) : (s.enterDomain d).sched = s.sched := rfl
@[simp] theorem enterDomain_ramp (s : State) (d : Domain) : (s.enterDomain d).ramp = s.ramp := rfl
@[simp] theorem enterDomain_queue (s : State) (d : Domain) : (s.enterDomain d).queue = s.queue := rfl
@[simp] theorem enterDomain_retention (s : State) (d : Domain) : (s.enterDomain d).retention = s.retention :=
  rfl
@[simp] theorem enterDomain_session (s : State) (d : Domain) : (s.enterDomain d).session = s.session := rfl
@[simp] theorem enterDomain_rails (s : State) (d : Domain) : (s.enterDomain d).rails = s.rails := rfl
@[simp] theorem enterDomain_meas (s : State) (d : Domain) : (s.enterDomain d).meas = s.meas := rfl
@[simp] theorem enterDomain_store (s : State) (d : Domain) : (s.enterDomain d).store = s.store := rfl
@[simp] theorem enterDomain_settings (s : State) (d : Domain) : (s.enterDomain d).settings = s.settings := rfl
@[simp] theorem enterDomain_counters (s : State) (d : Domain) : (s.enterDomain d).counters = s.counters := rfl
@[simp] theorem enterDomain_flags (s : State) (d : Domain) : (s.enterDomain d).flags = s.flags := rfl
@[simp] theorem enterDomain_inputs (s : State) (d : Domain) : (s.enterDomain d).inputs = s.inputs := rfl
@[simp] theorem enterDomain_plink (s : State) (d : Domain) : (s.enterDomain d).plink = s.plink := rfl
@[simp] theorem enterDomain_slink (s : State) (d : Domain) : (s.enterDomain d).slink = s.slink := rfl
@[simp] theorem enterDomain_pins (s : State) (d : Domain) : (s.enterDomain d).pins = s.pins := rfl
@[simp] theorem enterDomain_pending (s : State) (d : Domain) : (s.enterDomain d).pending = s.pending := rfl

@[simp] theorem startRest_time (s : State) : (s.startRest).time = s.time := rfl
@[simp] theorem startRest_sched (s : State) : (s.startRest).sched = s.sched := rfl
@[simp] theorem startRest_ramp (s : State) : (s.startRest).ramp = s.ramp := rfl
@[simp] theorem startRest_queue (s : State) : (s.startRest).queue = s.queue := rfl
@[simp] theorem startRest_retention (s : State) : (s.startRest).retention = s.retention := rfl
@[simp] theorem startRest_rails (s : State) : (s.startRest).rails = s.rails := rfl
@[simp] theorem startRest_meas (s : State) : (s.startRest).meas = s.meas := rfl
@[simp] theorem startRest_store (s : State) : (s.startRest).store = s.store := rfl
@[simp] theorem startRest_settings (s : State) : (s.startRest).settings = s.settings := rfl
@[simp] theorem startRest_counters (s : State) : (s.startRest).counters = s.counters := rfl
@[simp] theorem startRest_flags (s : State) : (s.startRest).flags = s.flags := rfl
@[simp] theorem startRest_inputs (s : State) : (s.startRest).inputs = s.inputs := rfl
@[simp] theorem startRest_plink (s : State) : (s.startRest).plink = s.plink := rfl
@[simp] theorem startRest_slink (s : State) : (s.startRest).slink = s.slink := rfl
@[simp] theorem startRest_pins (s : State) : (s.startRest).pins = s.pins := rfl
@[simp] theorem startRest_pending (s : State) : (s.startRest).pending = s.pending := rfl

@[simp] theorem seeSupok_time (s : State) (b : Bool) : (s.seeSupok b).time = s.time := rfl
@[simp] theorem seeSupok_sched (s : State) (b : Bool) : (s.seeSupok b).sched = s.sched := rfl
@[simp] theorem seeSupok_ramp (s : State) (b : Bool) : (s.seeSupok b).ramp = s.ramp := rfl
@[simp] theorem seeSupok_queue (s : State) (b : Bool) : (s.seeSupok b).queue = s.queue := rfl
@[simp] theorem seeSupok_retention (s : State) (b : Bool) : (s.seeSupok b).retention = s.retention := rfl
@[simp] theorem seeSupok_session (s : State) (b : Bool) : (s.seeSupok b).session = s.session := rfl
@[simp] theorem seeSupok_rails (s : State) (b : Bool) : (s.seeSupok b).rails = s.rails := rfl
@[simp] theorem seeSupok_meas (s : State) (b : Bool) : (s.seeSupok b).meas = s.meas := rfl
@[simp] theorem seeSupok_store (s : State) (b : Bool) : (s.seeSupok b).store = s.store := rfl
@[simp] theorem seeSupok_settings (s : State) (b : Bool) : (s.seeSupok b).settings = s.settings := rfl
@[simp] theorem seeSupok_counters (s : State) (b : Bool) : (s.seeSupok b).counters = s.counters := rfl
@[simp] theorem seeSupok_flags (s : State) (b : Bool) : (s.seeSupok b).flags = s.flags := rfl
@[simp] theorem seeSupok_plink (s : State) (b : Bool) : (s.seeSupok b).plink = s.plink := rfl
@[simp] theorem seeSupok_slink (s : State) (b : Bool) : (s.seeSupok b).slink = s.slink := rfl
@[simp] theorem seeSupok_pending (s : State) (b : Bool) : (s.seeSupok b).pending = s.pending := rfl

@[simp] theorem startMain_time (s : State) : (s.startMain).time = s.time := rfl
@[simp] theorem startMain_sched (s : State) : (s.startMain).sched = s.sched := rfl
@[simp] theorem startMain_ramp (s : State) : (s.startMain).ramp = s.ramp := rfl
@[simp] theorem startMain_queue (s : State) : (s.startMain).queue = s.queue := rfl
@[simp] theorem startMain_retention (s : State) : (s.startMain).retention = s.retention := rfl
@[simp] theorem startMain_store (s : State) : (s.startMain).store = s.store := rfl
@[simp] theorem startMain_settings (s : State) : (s.startMain).settings = s.settings := rfl
@[simp] theorem startMain_counters (s : State) : (s.startMain).counters = s.counters := rfl
@[simp] theorem startMain_flags (s : State) : (s.startMain).flags = s.flags := rfl
@[simp] theorem startMain_inputs (s : State) : (s.startMain).inputs = s.inputs := rfl
@[simp] theorem startMain_plink (s : State) : (s.startMain).plink = s.plink := rfl
@[simp] theorem startMain_slink (s : State) : (s.startMain).slink = s.slink := rfl
@[simp] theorem startMain_pins (s : State) : (s.startMain).pins = s.pins := rfl
@[simp] theorem startMain_pending (s : State) : (s.startMain).pending = s.pending := rfl

@[simp] theorem startRefractory_time (s : State) : (s.startRefractory).time = s.time := rfl
@[simp] theorem startRefractory_ramp (s : State) : (s.startRefractory).ramp = s.ramp := rfl
@[simp] theorem startRefractory_queue (s : State) : (s.startRefractory).queue = s.queue := rfl
@[simp] theorem startRefractory_retention (s : State) : (s.startRefractory).retention = s.retention := rfl
@[simp] theorem startRefractory_session (s : State) : (s.startRefractory).session = s.session := rfl
@[simp] theorem startRefractory_rails (s : State) : (s.startRefractory).rails = s.rails := rfl
@[simp] theorem startRefractory_meas (s : State) : (s.startRefractory).meas = s.meas := rfl
@[simp] theorem startRefractory_store (s : State) : (s.startRefractory).store = s.store := rfl
@[simp] theorem startRefractory_settings (s : State) : (s.startRefractory).settings = s.settings := rfl
@[simp] theorem startRefractory_counters (s : State) : (s.startRefractory).counters = s.counters := rfl
@[simp] theorem startRefractory_flags (s : State) : (s.startRefractory).flags = s.flags := rfl
@[simp] theorem startRefractory_inputs (s : State) : (s.startRefractory).inputs = s.inputs := rfl
@[simp] theorem startRefractory_plink (s : State) : (s.startRefractory).plink = s.plink := rfl
@[simp] theorem startRefractory_slink (s : State) : (s.startRefractory).slink = s.slink := rfl
@[simp] theorem startRefractory_pins (s : State) : (s.startRefractory).pins = s.pins := rfl
@[simp] theorem startRefractory_pending (s : State) : (s.startRefractory).pending = s.pending := rfl

@[simp] theorem seeTrig_time (s : State) (b : Bool) : (s.seeTrig b).time = s.time := rfl
@[simp] theorem seeTrig_sched (s : State) (b : Bool) : (s.seeTrig b).sched = s.sched := rfl
@[simp] theorem seeTrig_ramp (s : State) (b : Bool) : (s.seeTrig b).ramp = s.ramp := rfl
@[simp] theorem seeTrig_queue (s : State) (b : Bool) : (s.seeTrig b).queue = s.queue := rfl
@[simp] theorem seeTrig_retention (s : State) (b : Bool) : (s.seeTrig b).retention = s.retention := rfl
@[simp] theorem seeTrig_session (s : State) (b : Bool) : (s.seeTrig b).session = s.session := rfl
@[simp] theorem seeTrig_rails (s : State) (b : Bool) : (s.seeTrig b).rails = s.rails := rfl
@[simp] theorem seeTrig_meas (s : State) (b : Bool) : (s.seeTrig b).meas = s.meas := rfl
@[simp] theorem seeTrig_store (s : State) (b : Bool) : (s.seeTrig b).store = s.store := rfl
@[simp] theorem seeTrig_settings (s : State) (b : Bool) : (s.seeTrig b).settings = s.settings := rfl
@[simp] theorem seeTrig_counters (s : State) (b : Bool) : (s.seeTrig b).counters = s.counters := rfl
@[simp] theorem seeTrig_flags (s : State) (b : Bool) : (s.seeTrig b).flags = s.flags := rfl
@[simp] theorem seeTrig_plink (s : State) (b : Bool) : (s.seeTrig b).plink = s.plink := rfl
@[simp] theorem seeTrig_slink (s : State) (b : Bool) : (s.seeTrig b).slink = s.slink := rfl
@[simp] theorem seeTrig_pending (s : State) (b : Bool) : (s.seeTrig b).pending = s.pending := rfl

@[simp] theorem seeService_time (s : State) (b : Bool) : (s.seeService b).time = s.time := rfl
@[simp] theorem seeService_sched (s : State) (b : Bool) : (s.seeService b).sched = s.sched := rfl
@[simp] theorem seeService_ramp (s : State) (b : Bool) : (s.seeService b).ramp = s.ramp := rfl
@[simp] theorem seeService_queue (s : State) (b : Bool) : (s.seeService b).queue = s.queue := rfl
@[simp] theorem seeService_retention (s : State) (b : Bool) : (s.seeService b).retention = s.retention := rfl
@[simp] theorem seeService_session (s : State) (b : Bool) : (s.seeService b).session = s.session := rfl
@[simp] theorem seeService_rails (s : State) (b : Bool) : (s.seeService b).rails = s.rails := rfl
@[simp] theorem seeService_meas (s : State) (b : Bool) : (s.seeService b).meas = s.meas := rfl
@[simp] theorem seeService_store (s : State) (b : Bool) : (s.seeService b).store = s.store := rfl
@[simp] theorem seeService_settings (s : State) (b : Bool) : (s.seeService b).settings = s.settings := rfl
@[simp] theorem seeService_counters (s : State) (b : Bool) : (s.seeService b).counters = s.counters := rfl
@[simp] theorem seeService_flags (s : State) (b : Bool) : (s.seeService b).flags = s.flags := rfl
@[simp] theorem seeService_plink (s : State) (b : Bool) : (s.seeService b).plink = s.plink := rfl
@[simp] theorem seeService_slink (s : State) (b : Bool) : (s.seeService b).slink = s.slink := rfl
@[simp] theorem seeService_pending (s : State) (b : Bool) : (s.seeService b).pending = s.pending := rfl

@[simp] theorem seeComparator_time (s : State) (b : Bool) : (s.seeComparator b).time = s.time := rfl
@[simp] theorem seeComparator_sched (s : State) (b : Bool) : (s.seeComparator b).sched = s.sched := rfl
@[simp] theorem seeComparator_ramp (s : State) (b : Bool) : (s.seeComparator b).ramp = s.ramp := rfl
@[simp] theorem seeComparator_queue (s : State) (b : Bool) : (s.seeComparator b).queue = s.queue := rfl
@[simp] theorem seeComparator_retention (s : State) (b : Bool) : (s.seeComparator b).retention = s.retention :=
  rfl
@[simp] theorem seeComparator_session (s : State) (b : Bool) : (s.seeComparator b).session = s.session := rfl
@[simp] theorem seeComparator_rails (s : State) (b : Bool) : (s.seeComparator b).rails = s.rails := rfl
@[simp] theorem seeComparator_store (s : State) (b : Bool) : (s.seeComparator b).store = s.store := rfl
@[simp] theorem seeComparator_settings (s : State) (b : Bool) : (s.seeComparator b).settings = s.settings := rfl
@[simp] theorem seeComparator_counters (s : State) (b : Bool) : (s.seeComparator b).counters = s.counters := rfl
@[simp] theorem seeComparator_flags (s : State) (b : Bool) : (s.seeComparator b).flags = s.flags := rfl
@[simp] theorem seeComparator_inputs (s : State) (b : Bool) : (s.seeComparator b).inputs = s.inputs := rfl
@[simp] theorem seeComparator_plink (s : State) (b : Bool) : (s.seeComparator b).plink = s.plink := rfl
@[simp] theorem seeComparator_slink (s : State) (b : Bool) : (s.seeComparator b).slink = s.slink := rfl
@[simp] theorem seeComparator_pins (s : State) (b : Bool) : (s.seeComparator b).pins = s.pins := rfl
@[simp] theorem seeComparator_pending (s : State) (b : Bool) : (s.seeComparator b).pending = s.pending := rfl

@[simp] theorem stampStrobe_time (s : State) : (s.stampStrobe).time = s.time := rfl
@[simp] theorem stampStrobe_sched (s : State) : (s.stampStrobe).sched = s.sched := rfl
@[simp] theorem stampStrobe_ramp (s : State) : (s.stampStrobe).ramp = s.ramp := rfl
@[simp] theorem stampStrobe_retention (s : State) : (s.stampStrobe).retention = s.retention := rfl
@[simp] theorem stampStrobe_session (s : State) : (s.stampStrobe).session = s.session := rfl
@[simp] theorem stampStrobe_rails (s : State) : (s.stampStrobe).rails = s.rails := rfl
@[simp] theorem stampStrobe_meas (s : State) : (s.stampStrobe).meas = s.meas := rfl
@[simp] theorem stampStrobe_store (s : State) : (s.stampStrobe).store = s.store := rfl
@[simp] theorem stampStrobe_settings (s : State) : (s.stampStrobe).settings = s.settings := rfl
@[simp] theorem stampStrobe_counters (s : State) : (s.stampStrobe).counters = s.counters := rfl
@[simp] theorem stampStrobe_flags (s : State) : (s.stampStrobe).flags = s.flags := rfl
@[simp] theorem stampStrobe_inputs (s : State) : (s.stampStrobe).inputs = s.inputs := rfl
@[simp] theorem stampStrobe_plink (s : State) : (s.stampStrobe).plink = s.plink := rfl
@[simp] theorem stampStrobe_slink (s : State) : (s.stampStrobe).slink = s.slink := rfl
@[simp] theorem stampStrobe_pins (s : State) : (s.stampStrobe).pins = s.pins := rfl
@[simp] theorem stampStrobe_pending (s : State) : (s.stampStrobe).pending = s.pending := rfl

@[simp] theorem serviceWake_time (s : State) : (s.serviceWake).time = s.time := rfl
@[simp] theorem serviceWake_sched (s : State) : (s.serviceWake).sched = s.sched := rfl
@[simp] theorem serviceWake_ramp (s : State) : (s.serviceWake).ramp = s.ramp := rfl
@[simp] theorem serviceWake_queue (s : State) : (s.serviceWake).queue = s.queue := rfl
@[simp] theorem serviceWake_retention (s : State) : (s.serviceWake).retention = s.retention := rfl
@[simp] theorem serviceWake_rails (s : State) : (s.serviceWake).rails = s.rails := rfl
@[simp] theorem serviceWake_meas (s : State) : (s.serviceWake).meas = s.meas := rfl
@[simp] theorem serviceWake_store (s : State) : (s.serviceWake).store = s.store := rfl
@[simp] theorem serviceWake_settings (s : State) : (s.serviceWake).settings = s.settings := rfl
@[simp] theorem serviceWake_flags (s : State) : (s.serviceWake).flags = s.flags := rfl
@[simp] theorem serviceWake_inputs (s : State) : (s.serviceWake).inputs = s.inputs := rfl
@[simp] theorem serviceWake_plink (s : State) : (s.serviceWake).plink = s.plink := rfl
@[simp] theorem serviceWake_slink (s : State) : (s.serviceWake).slink = s.slink := rfl
@[simp] theorem serviceWake_pins (s : State) : (s.serviceWake).pins = s.pins := rfl
@[simp] theorem serviceWake_pending (s : State) : (s.serviceWake).pending = s.pending := rfl

@[simp] theorem requestCycle_time (s : State) : (s.requestCycle).time = s.time := rfl
@[simp] theorem requestCycle_sched (s : State) : (s.requestCycle).sched = s.sched := rfl
@[simp] theorem requestCycle_ramp (s : State) : (s.requestCycle).ramp = s.ramp := rfl
@[simp] theorem requestCycle_queue (s : State) : (s.requestCycle).queue = s.queue := rfl
@[simp] theorem requestCycle_retention (s : State) : (s.requestCycle).retention = s.retention := rfl
@[simp] theorem requestCycle_session (s : State) : (s.requestCycle).session = s.session := rfl
@[simp] theorem requestCycle_meas (s : State) : (s.requestCycle).meas = s.meas := rfl
@[simp] theorem requestCycle_store (s : State) : (s.requestCycle).store = s.store := rfl
@[simp] theorem requestCycle_settings (s : State) : (s.requestCycle).settings = s.settings := rfl
@[simp] theorem requestCycle_counters (s : State) : (s.requestCycle).counters = s.counters := rfl
@[simp] theorem requestCycle_flags (s : State) : (s.requestCycle).flags = s.flags := rfl
@[simp] theorem requestCycle_inputs (s : State) : (s.requestCycle).inputs = s.inputs := rfl
@[simp] theorem requestCycle_plink (s : State) : (s.requestCycle).plink = s.plink := rfl
@[simp] theorem requestCycle_slink (s : State) : (s.requestCycle).slink = s.slink := rfl
@[simp] theorem requestCycle_pins (s : State) : (s.requestCycle).pins = s.pins := rfl
@[simp] theorem requestCycle_pending (s : State) : (s.requestCycle).pending = s.pending := rfl

@[simp] theorem endRelay_time (s : State) : (s.endRelay).time = s.time := rfl
@[simp] theorem endRelay_sched (s : State) : (s.endRelay).sched = s.sched := rfl
@[simp] theorem endRelay_ramp (s : State) : (s.endRelay).ramp = s.ramp := rfl
@[simp] theorem endRelay_retention (s : State) : (s.endRelay).retention = s.retention := rfl
@[simp] theorem endRelay_session (s : State) : (s.endRelay).session = s.session := rfl
@[simp] theorem endRelay_rails (s : State) : (s.endRelay).rails = s.rails := rfl
@[simp] theorem endRelay_meas (s : State) : (s.endRelay).meas = s.meas := rfl
@[simp] theorem endRelay_store (s : State) : (s.endRelay).store = s.store := rfl
@[simp] theorem endRelay_settings (s : State) : (s.endRelay).settings = s.settings := rfl
@[simp] theorem endRelay_counters (s : State) : (s.endRelay).counters = s.counters := rfl
@[simp] theorem endRelay_flags (s : State) : (s.endRelay).flags = s.flags := rfl
@[simp] theorem endRelay_inputs (s : State) : (s.endRelay).inputs = s.inputs := rfl
@[simp] theorem endRelay_plink (s : State) : (s.endRelay).plink = s.plink := rfl
@[simp] theorem endRelay_slink (s : State) : (s.endRelay).slink = s.slink := rfl
@[simp] theorem endRelay_pins (s : State) : (s.endRelay).pins = s.pins := rfl
@[simp] theorem endRelay_pending (s : State) : (s.endRelay).pending = s.pending := rfl

@[simp] theorem passRelay_time (s : State) (p : List Byte) : (s.passRelay p).time = s.time :=
  by unfold State.passRelay; split <;> simp
@[simp] theorem passRelay_sched (s : State) (p : List Byte) : (s.passRelay p).sched = s.sched :=
  by unfold State.passRelay; split <;> simp
@[simp] theorem passRelay_ramp (s : State) (p : List Byte) : (s.passRelay p).ramp = s.ramp :=
  by unfold State.passRelay; split <;> simp
@[simp] theorem passRelay_queue (s : State) (p : List Byte) : (s.passRelay p).queue = s.queue :=
  by unfold State.passRelay; split <;> simp
@[simp] theorem passRelay_retention (s : State) (p : List Byte) : (s.passRelay p).retention = s.retention :=
  by unfold State.passRelay; split <;> simp
@[simp] theorem passRelay_session (s : State) (p : List Byte) : (s.passRelay p).session = s.session :=
  by unfold State.passRelay; split <;> simp
@[simp] theorem passRelay_rails (s : State) (p : List Byte) : (s.passRelay p).rails = s.rails :=
  by unfold State.passRelay; split <;> simp
@[simp] theorem passRelay_meas (s : State) (p : List Byte) : (s.passRelay p).meas = s.meas :=
  by unfold State.passRelay; split <;> simp
@[simp] theorem passRelay_store (s : State) (p : List Byte) : (s.passRelay p).store = s.store :=
  by unfold State.passRelay; split <;> simp
@[simp] theorem passRelay_settings (s : State) (p : List Byte) : (s.passRelay p).settings = s.settings :=
  by unfold State.passRelay; split <;> simp
@[simp] theorem passRelay_flags (s : State) (p : List Byte) : (s.passRelay p).flags = s.flags :=
  by unfold State.passRelay; split <;> simp
@[simp] theorem passRelay_inputs (s : State) (p : List Byte) : (s.passRelay p).inputs = s.inputs :=
  by unfold State.passRelay; split <;> simp
@[simp] theorem passRelay_slink (s : State) (p : List Byte) : (s.passRelay p).slink = s.slink :=
  by unfold State.passRelay; split <;> simp
@[simp] theorem passRelay_pins (s : State) (p : List Byte) : (s.passRelay p).pins = s.pins :=
  by unfold State.passRelay; split <;> simp
@[simp] theorem passRelay_pending (s : State) (p : List Byte) : (s.passRelay p).pending = s.pending :=
  by unfold State.passRelay; split <;> simp

@[simp] theorem acceptReply_time (s : State) : (s.acceptReply).time = s.time := rfl
@[simp] theorem acceptReply_sched (s : State) : (s.acceptReply).sched = s.sched := rfl
@[simp] theorem acceptReply_ramp (s : State) : (s.acceptReply).ramp = s.ramp := rfl
@[simp] theorem acceptReply_queue (s : State) : (s.acceptReply).queue = s.queue := rfl
@[simp] theorem acceptReply_retention (s : State) : (s.acceptReply).retention = s.retention := rfl
@[simp] theorem acceptReply_rails (s : State) : (s.acceptReply).rails = s.rails := rfl
@[simp] theorem acceptReply_meas (s : State) : (s.acceptReply).meas = s.meas := rfl
@[simp] theorem acceptReply_store (s : State) : (s.acceptReply).store = s.store := rfl
@[simp] theorem acceptReply_settings (s : State) : (s.acceptReply).settings = s.settings := rfl
@[simp] theorem acceptReply_counters (s : State) : (s.acceptReply).counters = s.counters := rfl
@[simp] theorem acceptReply_flags (s : State) : (s.acceptReply).flags = s.flags := rfl
@[simp] theorem acceptReply_inputs (s : State) : (s.acceptReply).inputs = s.inputs := rfl
@[simp] theorem acceptReply_plink (s : State) : (s.acceptReply).plink = s.plink := rfl
@[simp] theorem acceptReply_slink (s : State) : (s.acceptReply).slink = s.slink := rfl
@[simp] theorem acceptReply_pins (s : State) : (s.acceptReply).pins = s.pins := rfl
@[simp] theorem acceptReply_pending (s : State) : (s.acceptReply).pending = s.pending := rfl

@[simp] theorem endRest_time (s : State) : (s.endRest).time = s.time := rfl
@[simp] theorem endRest_sched (s : State) : (s.endRest).sched = s.sched := rfl
@[simp] theorem endRest_ramp (s : State) : (s.endRest).ramp = s.ramp := rfl
@[simp] theorem endRest_queue (s : State) : (s.endRest).queue = s.queue := rfl
@[simp] theorem endRest_retention (s : State) : (s.endRest).retention = s.retention := rfl
@[simp] theorem endRest_rails (s : State) : (s.endRest).rails = s.rails := rfl
@[simp] theorem endRest_meas (s : State) : (s.endRest).meas = s.meas := rfl
@[simp] theorem endRest_store (s : State) : (s.endRest).store = s.store := rfl
@[simp] theorem endRest_settings (s : State) : (s.endRest).settings = s.settings := rfl
@[simp] theorem endRest_counters (s : State) : (s.endRest).counters = s.counters := rfl
@[simp] theorem endRest_flags (s : State) : (s.endRest).flags = s.flags := rfl
@[simp] theorem endRest_inputs (s : State) : (s.endRest).inputs = s.inputs := rfl
@[simp] theorem endRest_plink (s : State) : (s.endRest).plink = s.plink := rfl
@[simp] theorem endRest_slink (s : State) : (s.endRest).slink = s.slink := rfl
@[simp] theorem endRest_pins (s : State) : (s.endRest).pins = s.pins := rfl
@[simp] theorem endRest_pending (s : State) : (s.endRest).pending = s.pending := rfl

@[simp] theorem putItem_time (s : State) (i : Item) (v : Word32) : (s.putItem i v).time = s.time := rfl
@[simp] theorem putItem_sched (s : State) (i : Item) (v : Word32) : (s.putItem i v).sched = s.sched := rfl
@[simp] theorem putItem_ramp (s : State) (i : Item) (v : Word32) : (s.putItem i v).ramp = s.ramp := rfl
@[simp] theorem putItem_queue (s : State) (i : Item) (v : Word32) : (s.putItem i v).queue = s.queue := rfl
@[simp] theorem putItem_retention (s : State) (i : Item) (v : Word32) : (s.putItem i v).retention = s.retention :=
  rfl
@[simp] theorem putItem_session (s : State) (i : Item) (v : Word32) : (s.putItem i v).session = s.session := rfl
@[simp] theorem putItem_rails (s : State) (i : Item) (v : Word32) : (s.putItem i v).rails = s.rails := rfl
@[simp] theorem putItem_meas (s : State) (i : Item) (v : Word32) : (s.putItem i v).meas = s.meas := rfl
@[simp] theorem putItem_store (s : State) (i : Item) (v : Word32) : (s.putItem i v).store = s.store := rfl
@[simp] theorem putItem_counters (s : State) (i : Item) (v : Word32) : (s.putItem i v).counters = s.counters :=
  rfl
@[simp] theorem putItem_flags (s : State) (i : Item) (v : Word32) : (s.putItem i v).flags = s.flags := rfl
@[simp] theorem putItem_inputs (s : State) (i : Item) (v : Word32) : (s.putItem i v).inputs = s.inputs := rfl
@[simp] theorem putItem_plink (s : State) (i : Item) (v : Word32) : (s.putItem i v).plink = s.plink := rfl
@[simp] theorem putItem_slink (s : State) (i : Item) (v : Word32) : (s.putItem i v).slink = s.slink := rfl
@[simp] theorem putItem_pins (s : State) (i : Item) (v : Word32) : (s.putItem i v).pins = s.pins := rfl
@[simp] theorem putItem_pending (s : State) (i : Item) (v : Word32) : (s.putItem i v).pending = s.pending := rfl

@[simp] theorem abandonLoad_time (s : State) : (s.abandonLoad).time = s.time := rfl
@[simp] theorem abandonLoad_sched (s : State) : (s.abandonLoad).sched = s.sched := rfl
@[simp] theorem abandonLoad_ramp (s : State) : (s.abandonLoad).ramp = s.ramp := rfl
@[simp] theorem abandonLoad_queue (s : State) : (s.abandonLoad).queue = s.queue := rfl
@[simp] theorem abandonLoad_retention (s : State) : (s.abandonLoad).retention = s.retention := rfl
@[simp] theorem abandonLoad_session (s : State) : (s.abandonLoad).session = s.session := rfl
@[simp] theorem abandonLoad_rails (s : State) : (s.abandonLoad).rails = s.rails := rfl
@[simp] theorem abandonLoad_meas (s : State) : (s.abandonLoad).meas = s.meas := rfl
@[simp] theorem abandonLoad_settings (s : State) : (s.abandonLoad).settings = s.settings := rfl
@[simp] theorem abandonLoad_counters (s : State) : (s.abandonLoad).counters = s.counters := rfl
@[simp] theorem abandonLoad_flags (s : State) : (s.abandonLoad).flags = s.flags := rfl
@[simp] theorem abandonLoad_inputs (s : State) : (s.abandonLoad).inputs = s.inputs := rfl
@[simp] theorem abandonLoad_plink (s : State) : (s.abandonLoad).plink = s.plink := rfl
@[simp] theorem abandonLoad_slink (s : State) : (s.abandonLoad).slink = s.slink := rfl
@[simp] theorem abandonLoad_pins (s : State) : (s.abandonLoad).pins = s.pins := rfl
@[simp] theorem abandonLoad_pending (s : State) : (s.abandonLoad).pending = s.pending := rfl

@[simp] theorem storeResult_time (s : State) (c : Channel) (q : Int) : (s.storeResult c q).time = s.time := rfl
@[simp] theorem storeResult_sched (s : State) (c : Channel) (q : Int) : (s.storeResult c q).sched = s.sched :=
  rfl
@[simp] theorem storeResult_ramp (s : State) (c : Channel) (q : Int) : (s.storeResult c q).ramp = s.ramp := rfl
@[simp] theorem storeResult_queue (s : State) (c : Channel) (q : Int) : (s.storeResult c q).queue = s.queue :=
  rfl
@[simp] theorem storeResult_retention (s : State) (c : Channel) (q : Int) : (s.storeResult c q).retention = s.retention :=
  rfl
@[simp] theorem storeResult_session (s : State) (c : Channel) (q : Int) : (s.storeResult c q).session = s.session :=
  rfl
@[simp] theorem storeResult_rails (s : State) (c : Channel) (q : Int) : (s.storeResult c q).rails = s.rails :=
  rfl
@[simp] theorem storeResult_store (s : State) (c : Channel) (q : Int) : (s.storeResult c q).store = s.store :=
  rfl
@[simp] theorem storeResult_settings (s : State) (c : Channel) (q : Int) : (s.storeResult c q).settings = s.settings :=
  rfl
@[simp] theorem storeResult_counters (s : State) (c : Channel) (q : Int) : (s.storeResult c q).counters = s.counters :=
  rfl
@[simp] theorem storeResult_flags (s : State) (c : Channel) (q : Int) : (s.storeResult c q).flags = s.flags :=
  rfl
@[simp] theorem storeResult_inputs (s : State) (c : Channel) (q : Int) : (s.storeResult c q).inputs = s.inputs :=
  rfl
@[simp] theorem storeResult_plink (s : State) (c : Channel) (q : Int) : (s.storeResult c q).plink = s.plink :=
  rfl
@[simp] theorem storeResult_slink (s : State) (c : Channel) (q : Int) : (s.storeResult c q).slink = s.slink :=
  rfl
@[simp] theorem storeResult_pins (s : State) (c : Channel) (q : Int) : (s.storeResult c q).pins = s.pins := rfl
@[simp] theorem storeResult_pending (s : State) (c : Channel) (q : Int) : (s.storeResult c q).pending = s.pending :=
  rfl

@[simp] theorem startMeasurePeriod_time (s : State) : (s.startMeasurePeriod).time = s.time := rfl
@[simp] theorem startMeasurePeriod_sched (s : State) : (s.startMeasurePeriod).sched = s.sched := rfl
@[simp] theorem startMeasurePeriod_ramp (s : State) : (s.startMeasurePeriod).ramp = s.ramp := rfl
@[simp] theorem startMeasurePeriod_queue (s : State) : (s.startMeasurePeriod).queue = s.queue := rfl
@[simp] theorem startMeasurePeriod_retention (s : State) : (s.startMeasurePeriod).retention = s.retention := rfl
@[simp] theorem startMeasurePeriod_session (s : State) : (s.startMeasurePeriod).session = s.session := rfl
@[simp] theorem startMeasurePeriod_rails (s : State) : (s.startMeasurePeriod).rails = s.rails := rfl
@[simp] theorem startMeasurePeriod_store (s : State) : (s.startMeasurePeriod).store = s.store := rfl
@[simp] theorem startMeasurePeriod_settings (s : State) : (s.startMeasurePeriod).settings = s.settings := rfl
@[simp] theorem startMeasurePeriod_counters (s : State) : (s.startMeasurePeriod).counters = s.counters := rfl
@[simp] theorem startMeasurePeriod_flags (s : State) : (s.startMeasurePeriod).flags = s.flags := rfl
@[simp] theorem startMeasurePeriod_inputs (s : State) : (s.startMeasurePeriod).inputs = s.inputs := rfl
@[simp] theorem startMeasurePeriod_plink (s : State) : (s.startMeasurePeriod).plink = s.plink := rfl
@[simp] theorem startMeasurePeriod_slink (s : State) : (s.startMeasurePeriod).slink = s.slink := rfl
@[simp] theorem startMeasurePeriod_pins (s : State) : (s.startMeasurePeriod).pins = s.pins := rfl
@[simp] theorem startMeasurePeriod_pending (s : State) : (s.startMeasurePeriod).pending = s.pending := rfl

@[simp] theorem closeBlanking_time (s : State) : (s.closeBlanking).time = s.time := rfl
@[simp] theorem closeBlanking_sched (s : State) : (s.closeBlanking).sched = s.sched := rfl
@[simp] theorem closeBlanking_ramp (s : State) : (s.closeBlanking).ramp = s.ramp := rfl
@[simp] theorem closeBlanking_queue (s : State) : (s.closeBlanking).queue = s.queue := rfl
@[simp] theorem closeBlanking_retention (s : State) : (s.closeBlanking).retention = s.retention := rfl
@[simp] theorem closeBlanking_session (s : State) : (s.closeBlanking).session = s.session := rfl
@[simp] theorem closeBlanking_rails (s : State) : (s.closeBlanking).rails = s.rails := rfl
@[simp] theorem closeBlanking_store (s : State) : (s.closeBlanking).store = s.store := rfl
@[simp] theorem closeBlanking_settings (s : State) : (s.closeBlanking).settings = s.settings := rfl
@[simp] theorem closeBlanking_counters (s : State) : (s.closeBlanking).counters = s.counters := rfl
@[simp] theorem closeBlanking_flags (s : State) : (s.closeBlanking).flags = s.flags := rfl
@[simp] theorem closeBlanking_inputs (s : State) : (s.closeBlanking).inputs = s.inputs := rfl
@[simp] theorem closeBlanking_plink (s : State) : (s.closeBlanking).plink = s.plink := rfl
@[simp] theorem closeBlanking_slink (s : State) : (s.closeBlanking).slink = s.slink := rfl
@[simp] theorem closeBlanking_pins (s : State) : (s.closeBlanking).pins = s.pins := rfl
@[simp] theorem closeBlanking_pending (s : State) : (s.closeBlanking).pending = s.pending := rfl

@[simp] theorem endOnPhase_time (s : State) : (s.endOnPhase).time = s.time := rfl
@[simp] theorem endOnPhase_sched (s : State) : (s.endOnPhase).sched = s.sched := rfl
@[simp] theorem endOnPhase_ramp (s : State) : (s.endOnPhase).ramp = s.ramp := rfl
@[simp] theorem endOnPhase_queue (s : State) : (s.endOnPhase).queue = s.queue := rfl
@[simp] theorem endOnPhase_retention (s : State) : (s.endOnPhase).retention = s.retention := rfl
@[simp] theorem endOnPhase_session (s : State) : (s.endOnPhase).session = s.session := rfl
@[simp] theorem endOnPhase_meas (s : State) : (s.endOnPhase).meas = s.meas := rfl
@[simp] theorem endOnPhase_store (s : State) : (s.endOnPhase).store = s.store := rfl
@[simp] theorem endOnPhase_settings (s : State) : (s.endOnPhase).settings = s.settings := rfl
@[simp] theorem endOnPhase_counters (s : State) : (s.endOnPhase).counters = s.counters := rfl
@[simp] theorem endOnPhase_flags (s : State) : (s.endOnPhase).flags = s.flags := rfl
@[simp] theorem endOnPhase_inputs (s : State) : (s.endOnPhase).inputs = s.inputs := rfl
@[simp] theorem endOnPhase_plink (s : State) : (s.endOnPhase).plink = s.plink := rfl
@[simp] theorem endOnPhase_slink (s : State) : (s.endOnPhase).slink = s.slink := rfl
@[simp] theorem endOnPhase_pins (s : State) : (s.endOnPhase).pins = s.pins := rfl
@[simp] theorem endOnPhase_pending (s : State) : (s.endOnPhase).pending = s.pending := rfl

/-! ### Fields set -/

@[simp] theorem count_counters (s : State) (k : Counter) :
    (s.count k).counters = s.counters.put k (satInc (s.counters.value k)) := rfl
@[simp] theorem countMany_counters (s : State) (k : Counter) (n : Nat) :
    (s.countMany k n).counters = s.counters.put k (satAdd (s.counters.value k) n) := rfl
@[simp] theorem skip_counters (s : State) (r : SkipReason) :
    (s.skip r).counters = s.counters.put r.counter (satInc (s.counters.value r.counter)) := rfl
@[simp] theorem flagSag_flags (s : State) : s.flagSag.flags = { s.flags with sag := true } := rfl
@[simp] theorem flagOfferTimeout_flags (s : State) :
    s.flagOfferTimeout.flags = { s.flags with offerTimeout := true } := rfl
@[simp] theorem flagForcedSleep_flags (s : State) :
    s.flagForcedSleep.flags = { s.flags with forcedSleep := true } := rfl
@[simp] theorem flagNoShow_flags (s : State) : s.flagNoShow.flags = { s.flags with noShow := true } := rfl
@[simp] theorem flagModuleRestart_flags (s : State) :
    s.flagModuleRestart.flags = { s.flags with moduleRestart := true } := rfl
@[simp] theorem flagBadPacket_flags (s : State) :
    s.flagBadPacket.flags = { s.flags with badPacket := true } := rfl
@[simp] theorem setPort_p (s : State) (x : Port) : (s.setPort .p x).plink = x := rfl
@[simp] theorem setPort_s (s : State) (x : Port) : (s.setPort .s x).slink = x := rfl
@[simp] theorem setPort_p_slink (s : State) (x : Port) : (s.setPort .p x).slink = s.slink := rfl
@[simp] theorem setPort_s_plink (s : State) (x : Port) : (s.setPort .s x).plink = s.plink := rfl
@[simp] theorem port_p (s : State) : s.port .p = s.plink := rfl
@[simp] theorem port_s (s : State) : s.port .s = s.slink := rfl
@[simp] theorem sendP_plink (s : State) (p : Packet) :
    (s.sendP p).plink = { s.plink with tx := s.plink.tx ++ [p] } := rfl
@[simp] theorem sendAllP_plink (s : State) (ps : List Packet) :
    (s.sendAllP ps).plink = { s.plink with tx := s.plink.tx ++ ps } := rfl
@[simp] theorem sendS_slink (s : State) (p : Packet) :
    (s.sendS p).slink = { s.slink with tx := s.slink.tx ++ [p] } := rfl
@[simp] theorem answer_plink (s : State) (k : Byte) (r : AnswerCode) :
    (s.answer k r).plink = { s.plink with tx := s.plink.tx ++ [answerPacket k r none] } := rfl
@[simp] theorem answerTag_plink (s : State) (k : Byte) (r : AnswerCode) (tag : Byte) :
    (s.answerTag k r tag).plink =
      { s.plink with tx := s.plink.tx ++ [answerPacket k r (some (tag.setWidth 32))] } := rfl
@[simp] theorem flush_queue (s : State) :
    s.flush.queue = { s.queue with records := [], deadline := .idle, deliveryTimer := .idle, relay := .idle,
                                   relayLimit := .idle } := rfl
@[simp] theorem flush_counters (s : State) :
    s.flush.counters = s.counters.put .lost (satAdd s.counters.lost s.queue.records.length) := rfl
@[simp] theorem endPending_slot (s : State) (why : SkipReason) : (s.endPending why).sched.slot = none := by
  unfold State.endPending; split <;> simp_all
@[simp] theorem refreshDemand_rails (s : State) :
    s.refreshDemand.rails = { s.rails with demand := s.starting || (s.rails.demand && s.keepWarm) } := rfl
@[simp] theorem driveLoads_rails (s : State) :
    s.driveLoads.rails = { s.rails with recorder := s.recorderLevel, heater := s.heaterLevel } := rfl
@[simp] theorem captureOn_rails (s : State) : s.captureOn.rails = { s.rails with capture := true } := rfl
@[simp] theorem captureOn_queue (s : State) :
    s.captureOn.queue =
      { s.queue with module := .booting, bootTimer := Timer.start s.settings.bootLimit } := rfl
@[simp] theorem present_rails (s : State) :
    s.present.rails =
      { s.rails with
        timeToNext := s.nextShotIn
        warmUp := warmUpFor s.settings.warmUp s.nextShotIn
        cycleHold := s.rails.cycleHold && !(warmUpFor s.settings.warmUp s.nextShotIn && !s.rails.warmUp) } := rfl
@[simp] theorem fillSlot_sched (s : State) (p : PendingShot) :
    (s.fillSlot p).sched = { s.sched with slot := some p } := rfl
@[simp] theorem fillSlot_rails (s : State) (p : PendingShot) :
    (s.fillSlot p).rails = { s.rails with cycleHold := false } := rfl
@[simp] theorem sendStatus_inputs (s : State) : s.sendStatus.inputs = InputFlags.clear := rfl
@[simp] theorem sendStatus_plink (s : State) :
    s.sendStatus.plink = { s.plink with tx := s.plink.tx ++ s.statusReport } := rfl
@[simp] theorem enterDomain_time (s : State) (d : Domain) :
    (s.enterDomain d).time = { s.time with domain := d } := rfl
@[simp] theorem putItem_settings (s : State) (i : Item) (v : Word32) :
    (s.putItem i v).settings = s.settings.put i v := rfl
@[simp] theorem abandonLoad_store (s : State) : s.abandonLoad.store = s.store.abandon := rfl
@[simp] theorem takeTrip_meas (s : State) :
    s.takeTrip.meas =
      { s.meas with sagLatch := true, requests := { s.meas.requests with battery := true } } := rfl
@[simp] theorem takeTrip_flags (s : State) : s.takeTrip.flags = { s.flags with sag := true } := rfl
@[simp] theorem takeTrip_counters (s : State) :
    s.takeTrip.counters = s.counters.put .sagTrips (satInc s.counters.sagTrips) := rfl

@[simp] theorem seeTrig_pins (s : State) (b : Bool) : (s.seeTrig b).pins = { s.pins with trig := b } := rfl
@[simp] theorem seeTrig_inputs (s : State) (b : Bool) : (s.seeTrig b).inputs = { s.inputs with trig := true } := rfl
@[simp] theorem seeService_pins (s : State) (b : Bool) :
    (s.seeService b).pins = { s.pins with service := b } := rfl
@[simp] theorem seeService_inputs (s : State) (b : Bool) :
    (s.seeService b).inputs = { s.inputs with service := true } := rfl
@[simp] theorem seeSupok_pins (s : State) (b : Bool) : (s.seeSupok b).pins = { s.pins with supok := b } := rfl
@[simp] theorem seeSupok_inputs (s : State) (b : Bool) :
    (s.seeSupok b).inputs = { s.inputs with supok := true } := rfl
@[simp] theorem seeComparator_meas (s : State) (b : Bool) :
    (s.seeComparator b).meas = { s.meas with tripped := b } := rfl
@[simp] theorem endRest_session (s : State) : s.endRest.session = { s.session with restTimer := .idle } := rfl
@[simp] theorem startRest_session (s : State) :
    s.startRest.session = { s.session with restTimer := Timer.startSeconds s.settings.restSpan } := rfl
@[simp] theorem countElapsed_sched (s : State) :
    s.countElapsed.sched = { s.sched with elapsed := s.sched.elapsed + 1 } := rfl
@[simp] theorem closeBlanking_meas (s : State) : s.closeBlanking.meas = { s.meas with blanking := .idle } := rfl
@[simp] theorem endOnPhase_rails (s : State) :
    s.endOnPhase.rails = { s.rails with heaterOnPhase := .idle, phaseOn := false } := rfl
@[simp] theorem storeResult_meas (s : State) (c : Channel) (q : Int) :
    (s.storeResult c q).meas = s.meas.store c q := rfl

/-- A counter read after a write. -/
theorem value_put (cs : Counters) (k j : Counter) (v : Word16) :
    (cs.put k v).value j = if j = k then v else cs.value j := by
  cases k <;> cases j <;> rfl

/-- The counter written reads as written. -/
@[simp] theorem value_put_self (cs : Counters) (k : Counter) (v : Word16) : (cs.put k v).value k = v := by
  cases k <;> rfl

end Sys2Proof.Machine
end

