-- ==== Sys2Proof/Laws/Events.lean ====
section
/-! SUPPORT. What the shared operations of an event can do, said once: the end of an event (`conclude`) with its
frame and the levels it leaves, the hand-over of packets, and the timeouts. -/

namespace Sys2Proof.Machine

/-! ### Timeouts (01 R8) -/

theorem timer_start_zero : Timer.start 0 = .idle := rfl

theorem timer_start_pos {n : Nat} (h : 0 < n) : Timer.start n = .running (n + 1) := by
  unfold Timer.start; simp; omega

/-- A timeout of `n` ms is due after exactly `k` edges or more, for `k` at least `n + 1` (R8). -/
theorem timer_due_age {n k : Nat} (h : 0 < n) : ((Timer.start n).age k).due = decide (n + 1 ≤ k) := by
  rw [timer_start_pos h]
  unfold Timer.age
  by_cases hk : n + 1 ≤ k
  · have : n + 1 - k = 0 := by omega
    simp [this, hk, Timer.due]
  · have : ∃ m, n + 1 - k = m + 1 := ⟨n - k, by omega⟩
    obtain ⟨m, hm⟩ := this
    simp [hm, hk, Timer.due]

/-! ### Packets handed over (11 R193) -/

/-- A packet handed over is served when its condition holds. -/
theorem handOver_handed {l : Link} {p : Packet} {s x : State} (ready : State → Bool) (serve : State → State)
    (h : Handed l p s x) (hr : ready s = true) : s.handOver l p ready serve = serve x := by
  obtain ⟨hd, h | ⟨rest, hq, hx⟩⟩ := h
  · simp [State.handOver, hd, h.1, hr, h.2]
  · simp [State.handOver, hd, hq, hr, hx]

/-- A notice handed over is served. -/
theorem handOver_noticed {p : Packet} {s x : State} (serve : State → State) (h : Noticed p s x) :
    s.handOver .s p State.roomS serve = serve x := handOver_handed _ _ h.1 h.2

/-- A packet handed over leaves the session as it was. -/
theorem handed_session {l : Link} {p : Packet} {s x : State} (h : Handed l p s x) : x.session = s.session := by
  obtain ⟨_, h | ⟨rest, _, hx⟩⟩ := h
  · rw [h.2]
  · rw [hx]; simp

/-- A request handed over in session with its places is served. -/
theorem takeRequest_served {p : Packet} {n : Nat} {s x : State} (body : State → State) (h : Served p n s x) :
    s.takeRequest p n body = body x := by
  obtain ⟨hh, hs, hr⟩ := h
  have hx : x.inSession = true := by
    have := handed_session hh
    simp only [State.inSession] at hs ⊢
    rw [this]; exact hs
  unfold State.takeRequest
  rw [handOver_handed _ _ hh (by simp [hr])]
  simp [hx]

/-- A request outside a session is counted out-of-session and changes nothing else (06 R117). -/
theorem takeRequest_outOfSession {p : Packet} {n : Nat} {s x : State} (body : State → State)
    (h : Handed .p p s x) (hs : s.inSession = false) : s.takeRequest p n body = x.count .outOfSession := by
  have hx : x.inSession = false := by
    have := handed_session h
    simp only [State.inSession] at hs ⊢
    rw [this]; exact hs
  unfold State.takeRequest
  rw [handOver_handed _ _ h (by simp [hs])]
  simp [hx]

/-- Nothing is received while the main domain is held (01 R13, 11 R192). -/
theorem handOver_held {l : Link} {p : Packet} {s : State} (ready : State → Bool) (serve : State → State)
    (h : s.time.domain ≠ .run) : s.handOver l p ready serve = s := by
  simp [State.handOver, h]

/-! ### Packets that a port accepts (11 R195) -/

/-- A packet that the P-link accepts names a command. -/
theorem commandOfP_of_accepts {p : Packet} (h : acceptsP p = true) : (commandOfP p).isSome = true := by
  unfold acceptsP at h
  split at h <;> first | cases h | skip
  all_goals rename_i hk
  all_goals
    (unfold commandOfP; rw [hk]; generalize p.payload = bs at h ⊢; rcases bs with _ | ⟨a, _ | ⟨b, _ | ⟨c, _ | ⟨d, _ | ⟨e, _ | ⟨f, r⟩⟩⟩⟩⟩⟩) <;>
    first | rfl | (simp [shootLengthOk] at h)

/-- A packet that the S-link accepts names a command. -/
theorem commandOfS_of_accepts {p : Packet} (h : acceptsS p = true) : (commandOfS p).isSome = true := by
  unfold acceptsS at h
  split at h <;> first | cases h | skip
  all_goals rename_i hk
  all_goals
    (unfold commandOfS; rw [hk]; generalize p.payload = bs at h ⊢
     rcases bs with _ | ⟨a, _ | ⟨b, _ | ⟨c, _ | ⟨d, _ | ⟨e, _ | ⟨f, _ | ⟨g, _ | ⟨i, _ | ⟨j, _ | ⟨k, r⟩⟩⟩⟩⟩⟩⟩⟩⟩⟩) <;>
    first | rfl | (simp at h)

/-- A packet that its port accepts names a command. -/
theorem commandOf_of_accepted {l : Link} {p : Packet} (h : p.accepted l = true) : (commandOf l p).isSome = true := by
  cases l
  · simpa [commandOf, h] using commandOfP_of_accepts h
  · simpa [commandOf, h] using commandOfS_of_accepts h

/-! ### Serving a receive queue (11 R193) -/

/-- A packet's command handed over by the port is the command itself. -/
theorem packetStep_exec {c : Instr} {lp : Link × Packet} (h : packetOf c = some lp) (s : State) :
    packetStep c s = exec c s := by
  cases c <;> first | rfl | simp [packetOf] at h

/-- What every packet command keeps, the serving of a receive queue keeps. -/
theorem handHeads_keeps {P : State → Prop} {l : Link}
    (hc : ∀ c lp s t, packetOf c = some lp → exec c s = .next t → P s → P t) : ∀ n s, P s → P (s.handHeads l n)
  | 0, _, hs => hs
  | n + 1, s, hs => by
    refine handHeads_keeps hc n _ ?_
    unfold State.handHead
    split
    · exact hs
    · split
      · exact hs
      · rename_i c _
        cases hp : packetOf c with
        | none =>
          have : packetStep c s = .next s := by cases c <;> first | rfl | simp [packetOf] at hp
          rw [this]; exact hs
        | some lp =>
          rw [packetStep_exec hp]
          cases he : exec c s with
          | next t => exact hc c lp s t hp he hs
          | fault f => exact hs
          | refused r => exact hs

theorem servePort_keeps {P : State → Prop} {l : Link}
    (hc : ∀ c lp s t, packetOf c = some lp → exec c s = .next t → P s → P t) {s : State} (hs : P s) : P (s.servePort l) := handHeads_keeps hc _ s hs

/-- An empty receive queue has nothing to serve. -/
theorem servePort_empty {l : Link} {s : State} (h : (s.port l).rx = []) : s.servePort l = s := by
  simp [State.servePort, h, State.handHeads]

/-- A head that its own command leaves as it is, leaves the queue as it is: it waits. -/
theorem handHeads_waits {l : Link} {s : State} (h : s.handHead l = s) : ∀ n, s.handHeads l n = s
  | 0 => rfl
  | n + 1 => by rw [State.handHeads, h]; exact handHeads_waits h n

theorem servePort_waits {l : Link} {s : State} (h : s.handHead l = s) : s.servePort l = s := handHeads_waits h _

/-- The head's command is the first step of serving the queue. -/
theorem servePort_cons {l : Link} {s : State} {p : Packet} {rest : List Packet} (h : (s.port l).rx = p :: rest) :
    s.servePort l = (s.handHead l).handHeads l rest.length := by
  simp [State.servePort, h, State.handHeads]

/-! ### Pieces of the end of an event -/

theorem endPending_sched (s : State) (why : SkipReason) :
    (s.endPending why).sched = { s.sched with slot := none } := by
  unfold State.endPending
  split
  · rename_i h; rw [← h]
  · simp

theorem captureOff_sched (s : State) (why : SkipReason) :
    (s.captureOff why).sched = { s.sched with slot := none } := by
  simp [State.captureOff, endPending_sched]

theorem captureOff_rails (s : State) (why : SkipReason) :
    (s.captureOff why).rails =
      { s.rails with capture := false, demand := (s.captureOff why).rails.demand } := by
  simp [State.captureOff]

theorem captureOff_queue (s : State) (why : SkipReason) :
    (s.captureOff why).queue =
      { s.queue with
        records := [], module := .unpowered, bootTimer := .idle, deadline := .idle, deliveryTimer := .idle,
        relay := .idle, relayLimit := .idle } := by
  simp [State.captureOff]

/-- The scheduler but for its slot. -/
theorem driveCapture_sched (s : State) (why : SkipReason) :
    (s.driveCapture why).sched = { s.sched with slot := (s.driveCapture why).sched.slot } := by
  unfold State.driveCapture
  split
  · rfl
  · split
    · rfl
    · simp [captureOff_sched]

theorem driveCapture_rails (s : State) (why : SkipReason) :
    (s.driveCapture why).rails =
      { s.rails with capture := s.captureLevel, demand := (s.driveCapture why).rails.demand } := by
  unfold State.driveCapture
  split
  · rename_i h; rw [h]
  · split
    · rename_i h; simp [h]
    · rename_i h; rw [captureOff_rails]; simp at h; simp [h]

/-- The records after the capture rail has taken its level: as before, or none at an off edge. -/
theorem driveCapture_queue (s : State) (why : SkipReason) :
    ((s.driveCapture why).queue = s.queue ∧ s.captureLevel = s.rails.capture) ∨
    ((s.driveCapture why).queue =
        { s.queue with module := .booting, bootTimer := Timer.start s.settings.bootLimit } ∧
      s.captureLevel = true ∧ s.rails.capture = false) ∨
    ((s.driveCapture why).queue =
        { s.queue with
          records := [], module := .unpowered, bootTimer := .idle, deadline := .idle, deliveryTimer := .idle,
          relay := .idle, relayLimit := .idle } ∧ s.captureLevel = false ∧ s.rails.capture = true) := by
  unfold State.driveCapture
  split
  · rename_i h; exact Or.inl ⟨rfl, h⟩
  · rename_i hne
    split
    · rename_i h
      refine Or.inr (Or.inl ⟨rfl, h, ?_⟩)
      rw [h] at hne; simpa using hne
    · rename_i h
      simp at h
      refine Or.inr (Or.inr ⟨captureOff_queue s why, h, ?_⟩)
      rw [h] at hne; simpa using hne

theorem driveCapture_failures (s : State) (why : SkipReason) :
    (s.driveCapture why).queue.failures = s.queue.failures ∧
      (s.driveCapture why).queue.faultCode = s.queue.faultCode := by
  rcases driveCapture_queue s why with h | h | h <;> simp [h.1]

/-- The S-link is emptied at an off edge and left alone otherwise (04 R68). -/
theorem driveCapture_slink (s : State) (why : SkipReason) :
    (s.driveCapture why).slink =
      if s.rails.capture = true ∧ s.captureLevel = false then { s.slink with rx := [], tx := [] } else s.slink := by
  unfold State.driveCapture
  cases hc : s.rails.capture <;> cases hl : s.captureLevel <;> simp [State.captureOff, State.captureOn]

theorem evaluateWake_queue' (s : State) : s.evaluateWake.queue = s.queue := evaluateWake_queue s

theorem endSession_store (s : State) : s.endSession.store = s.store.abandon := by
  simp [State.endSession]

theorem beginOffer_failures (s : State) (r : ShotRecord) :
    (s.beginOffer r).queue.failures = s.queue.failures ∧ (s.beginOffer r).queue.faultCode = s.queue.faultCode ∧
      (s.beginOffer r).queue.module = s.queue.module := ⟨rfl, rfl, rfl⟩

theorem sessionAfter_failures (s : State) :
    s.sessionAfter.queue.failures = s.queue.failures ∧ s.sessionAfter.queue.faultCode = s.queue.faultCode ∧
      s.sessionAfter.queue.module = s.queue.module := by
  unfold State.sessionAfter
  split
  · unfold State.offerTest
    split
    · simp
    · simp [beginOffer_failures]
  · split <;> simp
  · simp
  · simp

theorem sessionAfter_store (s : State) : s.sessionAfter.store = s.store ∨ s.sessionAfter.store = s.store.abandon := by
  unfold State.sessionAfter
  split
  · left; simp
  · split
    · exact Or.inl rfl
    · exact Or.inr (endSession_store s)
  · left; simp
  · exact Or.inl rfl

/-- Only the end of a CLOSING session abandons a load (06 R122). -/
theorem sessionAfter_not_closing_store {s : State} (h : s.session.state ≠ .closing) : s.sessionAfter.store = s.store := by
  unfold State.sessionAfter
  split <;> simp_all

theorem sessionAfter_not_closing_counters {s : State} (h : s.session.state ≠ .closing) :
    s.sessionAfter.counters = s.counters := by
  unfold State.sessionAfter
  split <;> simp_all

/-- The session's end in CLOSING counts the requests left in the receive queue, and nothing else is counted (06 R122). -/
theorem sessionAfter_counters (s : State) :
    s.sessionAfter.counters = s.counters ∨
    s.sessionAfter.counters =
      s.counters.put .outOfSession (satAdd s.counters.outOfSession s.plink.rx.length) := by
  unfold State.sessionAfter
  split
  · left; simp
  · split
    · exact Or.inl rfl
    · right; simp only [endSession_counters]; rfl
  · left; simp
  · exact Or.inl rfl

theorem arbitrate_meas (s : State) :
    s.arbitrate.meas = { s.meas with converting := s.arbitrate.meas.converting
                                     conversion := s.arbitrate.meas.conversion
                                     requests := s.arbitrate.meas.requests } := by
  unfold State.arbitrate; split <;> rfl

theorem spoil_meas (s : State) :
    s.spoil.meas = { s.meas with converting := s.spoil.meas.converting, conversion := s.spoil.meas.conversion
                                 requests := s.spoil.meas.requests } := by
  unfold State.spoil; split <;> rfl

theorem openBlanking_meas (s : State) :
    s.openBlanking.meas = { s.meas with blanking := s.openBlanking.meas.blanking } := by
  unfold State.openBlanking; split <;> rfl

theorem reportEdges_meas (b s : State) :
    (State.reportEdges b s).meas =
      { s.meas with converting := (State.reportEdges b s).meas.converting
                    conversion := (State.reportEdges b s).meas.conversion
                    requests := (State.reportEdges b s).meas.requests
                    blanking := (State.reportEdges b s).meas.blanking } := by
  unfold State.reportEdges
  split
  · rw [arbitrate_meas, spoil_meas, openBlanking_meas]
  · rfl

/-! ### The end of an event -/

/-- What the end of an event leaves alone. -/
theorem conclude_frame (why : SkipReason) (b s : State) : EventFrame s (State.conclude why b s) := by
  refine ⟨by simp, by simp, by simp, by simp, by simp, by simp, by simp, by simp, ?_, ?_, ?_, ?_, ?_, ?_⟩
  · have h := driveCapture_sched s why
    simp only [State.conclude, State.concludeLoads, reportEdges_sched, driveLoads_sched, sessionAfter_sched]
    exact h
  · have h := driveCapture_rails s why
    simp only [State.conclude, State.concludeLoads, reportEdges_rails, driveLoads_rails, sessionAfter_rails]
    rw [h]
  · have h := reportEdges_meas b ((s.driveCapture why).sessionAfter).driveLoads
    simp only [driveLoads_meas, sessionAfter_meas, driveCapture_meas] at h
    simp only [State.conclude, State.concludeLoads]
    exact h
  · simp only [State.conclude, State.concludeLoads, reportEdges_queue, driveLoads_queue]
    rw [(sessionAfter_failures _).1, (driveCapture_failures s why).1]
  · simp only [State.conclude, State.concludeLoads, reportEdges_queue, driveLoads_queue]
    rw [(sessionAfter_failures _).2.1, (driveCapture_failures s why).2]
  · simp only [State.conclude, State.concludeLoads, reportEdges_store, driveLoads_store]
    have h := sessionAfter_store (s.driveCapture why)
    simpa using h

/-- The session at the end of an event is that of `sessionAfter`, from the state that the capture rail's edge leaves. -/
theorem conclude_session (why : SkipReason) (b s : State) :
    (State.conclude why b s).session = (s.driveCapture why).sessionAfter.session := by
  simp [State.conclude, State.concludeLoads]

/-- The P-link at the end of an event is that of `sessionAfter`, from the state that the capture rail's edge leaves. -/
theorem conclude_plink (why : SkipReason) (b s : State) :
    (State.conclude why b s).plink = (s.driveCapture why).sessionAfter.plink := by
  simp [State.conclude, State.concludeLoads]

/-- A presentation changes the demand only, so its end of event has the same frame. -/
theorem settle_frame (why : SkipReason) (b s : State) : EventFrame s (State.settle why b s) := by
  have h := conclude_frame why b s.refreshDemand
  obtain ⟨h1, h2, h3, h4, h5, h6, h7, h8, h9, h10, h11, h12, h13, h14⟩ := h
  refine ⟨h1, h2, h3, h4, h5, h6, h7, h8, h9, ?_, h11, h12, h13, h14⟩
  simp only [State.settle]
  rw [h10]
  simp

end Sys2Proof.Machine
end

