-- ==== Sys2Proof/Tests/Slice0.lean ====
section
/-! SUPPORT. The author's own tests: well-formedness, packets, the manual's worked figures, one-step runs of commands, and
for every statement with hypotheses a state and operands that meet them. -/

namespace Sys2Proof.Tests

open Sys2Proof Sys2Proof.Machine

/-! ### Well-formed commands and packets -/

theorem test_wf_relay_empty_refused : WellFormed (.relay []) = false := by decide
theorem test_wf_relay_long_refused : WellFormed (.relay (List.replicate 49 0)) = false := by decide
theorem test_wf_moduleRelay_empty_refused : WellFormed (.moduleRelay []) = false := by decide
theorem test_wf_moduleRelay_long_refused : WellFormed (.moduleRelay (List.replicate 49 0)) = false := by decide
theorem test_wf_row_short_refused : WellFormed (.row 0 0 [1, 2]) = false := by decide
theorem test_wf_row_long_refused : WellFormed (.row 0 0 (List.replicate 13 0)) = false := by decide
theorem test_wf_packet_long_refused : WellFormed (.packetReceived .p 0x18 (List.replicate 49 0) 0) = false := rfl
theorem test_wf_set_own_command_refused : WellFormed (.set 26 5) = false := by decide
theorem test_wf_clear_named_group_refused : WellFormed (.clear 2) = false := by decide
theorem test_wf_accepts :
    WellFormed (.relay [1]) = true ∧ WellFormed (.row 2 0 [0, 0, 3, 0xE8, 0]) = true ∧ WellFormed (.set 3 5) = true ∧
      WellFormed (.set 200 5) = true ∧ WellFormed (.clear 3) = true ∧
      WellFormed (.packetReceived .s 0x50 [] 0x0C) = true := by decide

/-- The table gives no row any bits, so no word spells a command. -/
theorem test_no_word_spells_a_command : decodeTableWord 8 0x50 = none ∧ decodeTableWord 32 0 = none := by decide

/-- 11 R191: HELLO's whole packet is C3h 50h 00h 0Ch. -/
theorem test_hello_wire : helloPacket.wire = [0xC3, 0x50, 0x00, 0x0C] := by decide +kernel

theorem test_ports_test_kind_and_length :
    acceptsP ⟨0x10, [3, 0, 0, 0, 5]⟩ = true ∧ acceptsP ⟨0x10, [3, 0, 0, 5]⟩ = false ∧ acceptsP helloPacket = false ∧
      acceptsS helloPacket = true ∧ acceptsP ⟨0x15, [1]⟩ = false ∧ acceptsP ⟨0x15, [1, 0, 5]⟩ = true ∧
      acceptsP ⟨0x15, [0, 0, 5]⟩ = false ∧ acceptsS ⟨0x18, []⟩ = false := by decide

theorem test_packets_name_commands :
    commandOf .p (setPacket 0 7) = some (.setClock 7) ∧ commandOf .p (setPacket 3 7) = some (.set 3 7) ∧
      commandOf .p (clearPacket 1) = some .clearFlags ∧ commandOf .p (clearPacket 9) = some (.clear 9) ∧
      commandOf .p (shootPacket (some 100)) = some (.shoot (some 100)) ∧
      commandOf .s (framePacket 136 6750000 0 70 0 0) = some (.frame 136 6750000 0 70 0 0) ∧
      commandOf .p helloPacket = none := by decide

/-! ### The manual's worked figures -/

/-- The ladder of chapter 3's worked sequences. -/
def dawnLadder : List Rung :=
  [⟨1000, 0⟩, ⟨4000, 0⟩, ⟨16000, 0⟩, ⟨64000, 0⟩, ⟨250000, 0⟩] ++
  [⟨1000000, 0⟩, ⟨4000000, 0⟩, ⟨15000000, 0⟩, ⟨20000000, 4⟩, ⟨30000000, 8⟩]

/-- 03 R38: positions 56 and 48. -/
theorem test_exposure_examples :
    exposureAt dawnLadder 56 = ⟨56, 157000, 0⟩ ∧ exposureAt dawnLadder 48 = ⟨48, 64000, 0⟩ ∧
      exposureAt dawnLadder 184 = ⟨144, 30000000, 8⟩ ∧ exposureAt dawnLadder (-3) = ⟨0, 1000, 0⟩ := by decide

/-- The TIMED program of chapter 3's dawn. -/
def dawnProgram : ProgramRow := ⟨.timed, 118, 6, 12, 2, 9, 20, 5, 2, 9, 3, 0⟩

/-- 03 R43: the two shots of the TIMED dawn. -/
theorem test_timed_dawn :
    programPosition dawnProgram 0 1800 7200 = 120 ∧ programPosition dawnProgram 0 7199 7200 = 49 := by decide

/-- 03 R44: the five-shot bracket of the TIMED dawn. -/
theorem test_dawn_bracket :
    (memberOffsets 5).map (memberPosition dawnLadder dawnProgram 120) = [120, 88, 144, 56, 144] := by decide

/-- The METERED program of chapter 3's dusk. -/
def duskProgram : ProgramRow := ⟨.metered, 118, 6, 12, 2, 9, 20, 1, 2, 0, 0, 0⟩

/-- The correction table of chapter 3's dusk. -/
def duskCorrections : List CorrectionRow := [⟨-61, 16⟩, ⟨-21, 8⟩, ⟨-1, 3⟩, ⟨20, -3⟩, ⟨60, -8⟩, ⟨255, -16⟩]

/-- 03, dusk: FRAMEs 136, 137, 139 and 140. -/
theorem test_dusk_corrections :
    appliedCorrection duskProgram duskCorrections ⟨70, 0, 0⟩ = 8 ∧
      appliedCorrection duskProgram duskCorrections ⟨82, 0, 0⟩ = 8 ∧
      appliedCorrection duskProgram duskCorrections ⟨114, 3, 0⟩ = 0 ∧
      appliedCorrection duskProgram duskCorrections ⟨112, 26, 0⟩ = -12 := by decide

/-! ### States for the tests -/

/-- The part in RUN. -/
def inRun : State := { State.reset with time := ⟨70000, 750, 0, .run⟩ }

/-- A record with a number, in a state. -/
def record (n : Word32) (st : RecState) : ShotRecord where
  number := n
  role := .center
  offset := some 0
  indices := some ⟨0, 0⟩
  generation := some 0
  exposure := ⟨100, 6750000, 0⟩
  orderedAt := ⟨69990, 0⟩
  strobe := none
  facts := none
  heldSince := none
  failures := 0
  state := st

/-- RUN, with records and a module state. -/
def shotsIn (m : ModuleState) (rs : List ShotRecord) : State :=
  { inRun with queue := { inRun.queue with records := rs, module := m } }

/-- The session in a state. -/
def session (st : SessionState) (s : State) : State := { s with session := { s.session with state := st } }

/-- RUN and AWAKE. -/
def awake : State := session .awake inRun

/-- VALID banks of one table's rows. -/
def bank {α : Type} (rows : List α) : BankPair α := ⟨⟨true, rows, 0⟩, ⟨true, rows, 0⟩⟩

/-- A Table Store with every bank VALID: two windows, chapter 3's dusk program and ladder, four tiers, one band. -/
def loaded : TableStore where
  window := bank [⟨0, 10, 0, false, true⟩, ⟨70001, 20, 0, true, true⟩]
  program := bank [duskProgram]
  ladder := bank dawnLadder
  correction := bank duskCorrections
  retention := bank [⟨[.center, .member], 0, 100, [.full, .normal, .lean, .critical], .any, 1, .keepEvery, 3⟩,
    ⟨[.center], 101, 110, [.full, .normal, .lean, .critical], .any, 1, .drop, 2⟩,
    ⟨[.center], 111, 120, [.full, .normal, .lean, .critical], .changed, 4, .keep, 2⟩]
  tier := bank [⟨12000, 200, .x1, 4, 3600, 255, true⟩, ⟨11500, 200, .x2, 4, 3600, 10, true⟩,
    ⟨11000, 200, .x4, 6, 7200, 4, false⟩, ⟨0, 200, .suspend, 8, 86400, 0, false⟩]
  thermal := bank [⟨0, 16, true⟩, ⟨500, 4, true⟩, ⟨850, 0, false⟩]
  load := none
  commit := none

/-- RUN and RUNNING in window 0 over the loaded tables. -/
def running : State :=
  { inRun with
    store := loaded
    sched := { inRun.sched with state := .running, window := some 0 }
    retention := ⟨[0, 0, 0], none⟩ }

/-- A packet that arrives at an empty receive queue meets its block at once. -/
theorem handed_of_empty {l : Link} {p : Packet} {s : State} (h : s.time.domain = .run) (h0 : (s.port l).rx = []) :
    Handed l p s s := ⟨h, Or.inl ⟨h0, rfl⟩⟩

/-- A packet that stands at the head of the receive queue leaves it when it is served. -/
theorem test_handed_from_the_queue :
    Handed .s helloPacket { inRun with slink := { inRun.slink with rx := [helloPacket] } } inRun :=
  ⟨rfl, Or.inr ⟨[], rfl, rfl⟩⟩

/-- A notice that arrives at an empty queue with room on the S-link. -/
theorem noticed_of_empty {p : Packet} {s : State} (h : s.time.domain = .run) (h0 : s.slink.rx = [])
    (h1 : s.roomS = true) : Noticed p s s := ⟨handed_of_empty h h0, h1⟩

/-- A request that arrives at an empty queue, in session, with its places. -/
theorem served_of_empty {p : Packet} {n : Nat} {s : State} (h : s.time.domain = .run) (h0 : s.plink.rx = [])
    (h1 : s.inSession = true) (h2 : s.roomP n = true) : Served p n s s := ⟨handed_of_empty h h0, h1, h2⟩


/-- The state a command answers. -/
def after (c : Instr) (s : State) : State :=
  match exec c s with
  | .next t => t
  | .fault _ => s
  | .refused _ => s

/-! ### The interface, the invariants and the ends of events -/

/-- A command runs from cold start, and an empty queue idles (StepTakesCommandsInOrder). -/
theorem test_step_takes_the_front :
    step { State.reset with pending := [.trigOrServiceHigh .trig, .millisecondEdge] } =
        .next { State.reset with pending := [.millisecondEdge] } ∧
      step State.reset = .next State.reset := by
  constructor <;> rfl

/-- The invariants have members beyond the cold start: the part RUNNING with tables (StepKeepsOutputsSafe and the other
invariants). -/
theorem test_invariants_hold_while_running :
    OutputsSafe running ∧ QueueSound running ∧ PortsBounded running ∧ MainHeld running ∧
      ∃ t, step { running with pending := [.secondTick] } = .next t := by
  refine ⟨⟨by decide, by decide, by decide, by decide⟩, ⟨by decide, by decide, by decide, by decide, by decide⟩,
    ⟨by decide, by decide, by decide⟩, ⟨fun h => absurd h (by decide), fun h => absurd rfl h⟩, _, rfl⟩

/-- The Table Store's invariant has a member with VALID banks and a load transaction (StepKeepsTableStoreSound). -/
theorem test_store_sound_while_loading :
    StoreSound { running with store := { loaded.emptyStaged .tier with load := some ⟨.tier, 0, 0, 0⟩ } } := by
  refine ⟨?_, ?_, ?_, ?_, ?_, ?_, ?_, ?_, ?_⟩
  · exact ⟨fun _ => by decide, fun _ => by decide⟩
  · exact ⟨fun _ => by decide, fun _ => by decide⟩
  · exact ⟨fun _ => by decide, fun _ => by decide⟩
  · exact ⟨fun _ => by decide, fun _ => by decide⟩
  · exact ⟨fun _ => by decide, fun _ => by decide⟩
  · exact ⟨fun _ => by decide, fun h => absurd h (by decide)⟩
  · exact ⟨fun _ => by decide, fun _ => by decide⟩
  · intro tr h
    cases h
    decide
  · intro c h
    cases h

/-- The capture rail's three cases, and a pending shot at its off edge (CaptureEdgesReachTheQueue). -/
theorem test_capture_edges :
    let falls : State := { running with
      rails := { running.rails with capture := true, cycleHold := true }
      sched := { running.sched with slot := some ⟨.manual, 0, none⟩ } }
    let rises : State := { running with rails := { running.rails with demand := true } }
    (falls.rails.capture = true ∧ falls.captureLevel = false ∧ falls.sched.slot ≠ none) ∧
      (rises.rails.capture = false ∧ rises.captureLevel = true) ∧ running.captureLevel = running.rails.capture ∧
      (State.conclude .module falls falls).counters.skippedModule = 1 ∧
      (State.conclude .module rises rises).queue.bootTimer = .running 2001 := by decide +kernel

/-- A pending shot at an off edge counts under each reason, and none counts without one (CaptureEdgesReachTheQueue). -/
theorem test_off_edge_reasons :
    let falls : State := { running with
      rails := { running.rails with capture := true, cycleHold := true }
      sched := { running.sched with slot := some ⟨.manual, 0, none⟩ } }
    let ends (why : SkipReason) (s : State) : Counters := (State.conclude why s s).counters
    ((ends .module falls).skippedModule = 1 ∧ (ends .module falls).skippedProtected = 0) ∧
      ((ends .protection falls).skippedProtected = 1 ∧ (ends .protection falls).skippedModule = 0) ∧
      (ends .module { falls with sched := running.sched }).skippedModule = 0 := by decide +kernel

/-- Without an off edge the S-link, the slot, the queue's timers and the counters of the flush stay, at an on edge too; an off
edge ends them all, and the demand follows it (CaptureEdgesReachTheQueue, EndOfEventFrame, OutputsTakeChainLevels). -/
theorem test_capture_edge_frames :
    let s (on demand : Bool) : State := { running with
      rails := { running.rails with capture := on, demand := demand }
      queue := { running.queue with
        records := [record 1 .held], module := .ready, deadline := .running 7, deliveryTimer := .running 8
        relay := .inProgress, relayLimit := .running 9 }
      slink := { running.slink with tx := [dropPacket 1], rx := [helloPacket] }
      sched := { running.sched with slot := some ⟨.manual, 0, none⟩ } }
    let ends (x : State) : State := State.conclude .module x x
    ((ends (s true true)).queue = (s true true).queue ∧ (ends (s true true)).slink = (s true true).slink ∧
        (ends (s true true)).counters = running.counters ∧ (ends (s true true)).store = loaded) ∧
      ((ends (s false true)).queue = { (s false true).queue with module := .booting, bootTimer := .running 2001 } ∧
        (ends (s false true)).slink = (s false true).slink ∧ (ends (s false true)).sched = (s false true).sched) ∧
      ((ends (s true false)).queue.relayLimit = .idle ∧ (ends (s true false)).slink.tx = [] ∧
        (ends (s true false)).counters.lost = 1 ∧ (ends (s true false)).rails.demand = false) := by decide +kernel

/-- Recorder rail and heater take their chains' levels at each of the three ends of an event, on and off
(OutputsTakeChainLevels, EndOfEventFrame). -/
theorem test_loads_at_the_end_of_an_event :
    let asks : State := { session .awake running with settings := { running.settings with heaterMode := .on } }
    let bans : State := { running with
      rails := { running.rails with recorder := true, heater := true }
      meas := { running.meas with sagLatch := true }
      settings := asks.settings }
    let loads (s : State) : Bool × Bool := (s.rails.recorder, s.rails.heater)
    ([State.settle .protection asks asks, State.conclude .protection asks asks, State.concludeLoads asks asks].map loads =
        [(true, true), (true, true), (true, true)]) ∧
      [State.settle .protection bans bans, State.conclude .protection bans bans, State.concludeLoads bans bans].map loads =
        [(false, false), (false, false), (false, false)] := by decide +kernel

/-- The capture rail's automatic demand: a starting source, keep-warm at its border and above it, an off edge with a record
in the queue, with and without a shot within keep-warm, and an event without a presentation (OutputsTakeChainLevels). -/
theorem test_automatic_demand :
    let next (on : Bool) (n : Option Int) : State := { running with
      rails := { running.rails with demand := on, timeToNext := n } }
    let relaying : State := { running with queue := { running.queue with relay := .inProgress } }
    let falls (n : Option Int) : State := { next true n with
      queue := { running.queue with records := [record 1 .held] }
      rails := { (next true n).rails with capture := true, cycleHold := true } }
    let demandAfter (s : State) : Bool := (State.settle .protection s s).rails.demand
    demandAfter relaying = true ∧ demandAfter running = false ∧
      (demandAfter (next true (some 30)) = true ∧ demandAfter (next true (some 31)) = false ∧
        demandAfter (next true none) = false ∧ demandAfter (next false (some 5)) = false) ∧
      ((State.settle .protection (falls none) (falls none)).rails.capture = false ∧ demandAfter (falls none) = false ∧
        demandAfter (falls (some 30)) = true) ∧
      (State.conclude .protection (next true none) (next true none)).rails.demand = true := by decide +kernel

/-- The tier NORMAL with a battery result. -/
def normalTier (s : State) : State :=
  { s with meas := { s.meas with tier := .normal, lastBattery := some 11800 } }

/-- Demand with open gates, and without (AutomaticWakeNeedsDemandAndGates). -/
theorem test_wake_demand :
    let held := normalTier { running with
      queue := { running.queue with records := [{ record 1 .held with heldSince := some 69000 }] }
      settings := { running.settings with capacity := 1 } }
    (held.time.domain = .run ∧ held.session.state = .off ∧ held.wakeDemand = true ∧ held.gatesOpen = true) ∧
      held.evaluateWake.session.state = .waking ∧ (normalTier running).wakeDemand = false ∧
      (normalTier running).evaluateWake.session.state = .off := by decide +kernel

/-- The offer test holds, and does not (OfferTestOffersTheOldestHeld). -/
theorem test_offer_test :
    let s := session .awake (shotsIn .ready [record 1 .held, record 2 .held])
    (s.session.state = .awake ∧ s.queue.has .offered = false ∧ s.queue.has .releasing = false ∧
        s.queue.oldest .held = some (record 1 .held)) ∧
      s.offerTest.queue.records.map (·.state) = [.offered, .held] ∧
      s.offerTest.plink.tx = [offerPacket (record 1 .held)] ∧ s.offerTest.offerTest = s.offerTest := by decide +kernel

/-- The session at the end of an event: an offer, an offer timer cancelled and one kept in AWAKE, a capture off edge, the end
of CLOSING, a wake in OFF, and WAKING left alone (OfferTestOffersTheOldestHeld, SleepEndsTheSession,
AutomaticWakeNeedsDemandAndGates). -/
theorem test_session_at_the_end_of_an_event :
    let on (st : SessionState) (rs : List ShotRecord) : State := { running with
      session := { running.session with state := st, offerTimer := .running 9 }
      queue := { running.queue with records := rs, module := .ready }
      rails := { running.rails with capture := true, demand := true }
      settings := { running.settings with capacity := 1 } }
    let falls (s : State) : State := { s with rails := { s.rails with cycleHold := true } }
    let ends (s : State) : State := State.settle .protection s s
    let held := { record 1 .held with heldSince := some 69000 }
    ((ends (on .awake [held])).plink.tx = [offerPacket held] ∧ (ends (on .awake [held])).rails.capture = true) ∧
      ((ends (on .awake [record 1 .offered])).session.offerTimer = .running 9 ∧
        (ends (on .awake [record 1 .releasing])).session.offerTimer = .idle ∧
        (ends (on .awake [])).session.offerTimer = .idle) ∧
      ((ends (falls (on .awake [held]))).plink.tx = [] ∧ (ends (falls (on .awake [held]))).rails.capture = false) ∧
      ((ends (on .closing [held])).session.state = .off ∧ (ends (on .closing [record 1 .releasing])).session.state = .closing ∧
        (ends (falls (on .closing [record 1 .releasing]))).session.state = .off) ∧
      ((ends (normalTier (on .off [held]))).session.state = .waking ∧
        (ends (falls (normalTier (on .off [held])))).session.state = .off ∧
        (ends (normalTier (on .waking [held]))).session.state = .waking) := by decide +kernel

/-- The window with and without length, a conversion to spoil, selected and other edges (BlankingAndArbiter). -/
theorem test_blanking :
    let busy : State := { inRun with meas := { inRun.meas with converting := some .aux, conversion := .running 3 } }
    let none_ : State := { inRun with settings := { inRun.settings with blankLength := 0 } }
    let rises : State := { inRun with rails := { inRun.rails with recorder := true } }
    let falls : State := { inRun with rails := { inRun.rails with recorder := false } }
    (inRun.settings.blankLength ≠ 0 ∧ none_.settings.blankLength = 0 ∧ busy.meas.converting = some .aux) ∧
      (busy.openBlanking.spoil.counters.spoiledConversions = 1 ∧ busy.openBlanking.spoil.meas.requests.aux = true) ∧
      outputEdges inRun.rails rises.rails = [.recorderOn] ∧ .recorderOn ∈ rises.settings.blankEdges ∧
      outputEdges rises.rails falls.rails = [.recorderOff] ∧ .recorderOff ∉ falls.settings.blankEdges ∧
      (State.reportEdges inRun rises).meas.blanking = .running 51 := by decide +kernel

/-- An on edge that an event's end leaves opens the window and spoils a conversion at each of its three ends, and an edge of a
kind that is not selected does neither (BlankingAndArbiter). -/
theorem test_edges_at_the_end_of_an_event :
    let busy (kinds : List EdgeKind) : State := session .awake { running with
      meas := { running.meas with converting := some .aux, conversion := .running 3 }
      settings := { running.settings with blankEdges := kinds } }
    let ends (s : State) : List Measurement :=
      [State.settle .protection s s, State.conclude .protection s s, State.concludeLoads s s].map (·.meas)
    (ends (busy [.recorderOn])).map (fun m => (m.converting, m.blanking)) = List.replicate 3 (none, .running 51) ∧
      (ends (busy [.recorderOff])).map (fun m => (m.converting, m.blanking)) =
        List.replicate 3 (some .aux, .idle) := by decide +kernel

/-- Each channel can be the lowest pending one, and none can be (BlankingAndArbiter). -/
theorem test_arbiter :
    let pending (r : Requests) : State := { inRun with meas := { inRun.meas with requests := r } }
    (pending ⟨true, true, true⟩).arbitrate.meas.converting = some .battery ∧
      (pending ⟨false, true, true⟩).arbitrate.meas.converting = some .temperature ∧
      (pending ⟨false, false, true⟩).arbitrate.meas.converting = some .aux ∧
      (pending ⟨false, false, false⟩).arbitrate = pending ⟨false, false, false⟩ ∧
      inRun.meas.blanking = .idle ∧ inRun.meas.converting = none := by decide +kernel

/-! ### Time -/

/-- A timeout of n ms is due at its (n+1)-th edge; the refractory timer due and not (TimeoutsCountMillisecondEdges). -/
theorem test_timeouts :
    ((Timer.start 2).age 2).due = false ∧ ((Timer.start 2).age 3).due = true ∧ (Timer.start 0).due = false ∧
      (let out : State := { inRun with sched := { inRun.sched with refractory := .running 0 } }
       out.sched.refractory.due = true ∧ (after .refractoryExpiry out).sched.refractory = .idle) ∧
      inRun.sched.refractory.due = false := by decide +kernel

/-- The last edge of a second is a tick; ticks are counted in every domain (MillisecondStreamAndSecondTick). -/
theorem test_milliseconds_make_seconds :
    let last : State := { inRun with time := { inRun.time with phase := 999 } }
    inRun.time.phase < 999 ∧ (after .millisecondEdge inRun).time.phase = 751 ∧
      after .millisecondEdge last = after .secondTick last ∧ (after .secondTick last).time = ⟨70001, 0, 0, .run⟩ ∧
      (after .secondTick State.reset).time = ⟨1, 0, 0, .reset⟩ ∧
      (after .secondTick { inRun with time := { inRun.time with domain := .powerBad } }).time.domain = .powerBad := by
  decide +kernel

/-- A tick while STOPPED in RUN and in POWER_BAD, at a phase inside the second: elapsed and slot stay, timeouts age by what
is left of it (MillisecondStreamAndSecondTick). -/
theorem test_tick_while_stopped :
    let s : State := { inRun with
      sched := { inRun.sched with elapsed := 5, slot := some ⟨.manual, 1, none⟩, refractory := .running 900 }
      rails := { inRun.rails with timeToNext := some 4, warmUp := true } }
    let dark : State := { State.reset with time := { s.time with domain := .powerBad }, sched := { s.sched with slot := none } }
    (s.sched.state = .stopped ∧ s.time.phase = 750) ∧
      (after .secondTick s).sched = { s.sched with refractory := .running 650 } ∧
      ((after .secondTick s).rails.timeToNext = none ∧ (after .secondTick s).rails.warmUp = false) ∧
      after .secondTick dark = { dark with
        time := ⟨70001, 0, 0, .powerBad⟩, sched := { dark.sched with refractory := .running 650 } } := by decide +kernel

/-- 01 R7: the calendar wraps, and a change of the day number clears wakes-today. -/
theorem test_calendar_wraps :
    let s : State := { inRun with
      time := ⟨0xFFFFFFFF, 999, 0, .run⟩, session := { inRun.session with wakesToday := 3 } }
    (after .millisecondEdge s).time.calendar = 0 ∧ (after .millisecondEdge s).session.wakesToday = 0 := by
  decide +kernel

/-- Log 31: a tick that changes the day number and begins an automatic wake leaves wakes-today at 1
(MillisecondStreamAndSecondTick). -/
theorem test_rollover_precedes_the_wake :
    let s : State := normalTier { running with
      time := ⟨86399, 999, 0, .run⟩
      sched := { running.sched with state := .stopped, window := none }
      session := { running.session with wakesToday := 3 }
      rails := { running.rails with capture := true, demand := true, timeToNext := some 5 }
      queue := { running.queue with records := [{ record 1 .held with heldSince := some 69000 }], module := .ready }
      settings := { running.settings with capacity := 1 } }
    (after .secondTick s).session.state = .waking ∧ (after .secondTick s).session.wakesToday = 1 ∧
      s.time.dayNumber = 0 ∧ (after .secondTick s).time.dayNumber = 1 := by decide +kernel

/-- The row that contains a second of day, before the first start, at and between the starts, and the row that starts at it
(RunningTickCountsAndEnters). -/
theorem test_window_rows :
    let rows : List WindowRow := [⟨10, 60, 0, false, true⟩, ⟨20, 60, 0, false, true⟩, ⟨30, 60, 0, false, true⟩]
    rows.Pairwise (fun a b => a.start < b.start) ∧
      [9, 10, 19, 20, 30, 86399].map (windowAt rows) = [some 2, some 0, some 0, some 1, some 2, some 2] ∧
      [9, 10, 19, 20, 30].map (windowStarting rows) = [none, some 0, none, some 1, some 2] ∧ windowAt [] 5 = none := by
  decide +kernel

/-- A tick at a window's start makes a shot due; one inside the interval does not (RunningTickCountsAndEnters). -/
theorem test_running_ticks :
    let early : State := { running with time := { running.time with calendar := 69000 } }
    (running.sched.state = .running ∧ running.time.domain ≠ .reset ∧ running.store.commit = none) ∧
      (after .secondTick running).sched.window = some 1 ∧ (after .secondTick running).sched.elapsed = 0 ∧
      (after .secondTick early).sched.window = some 0 ∧ (after .secondTick early).sched.elapsed = 1 := by decide +kernel

/-- A commit pending at NEXT_WINDOW at a tick that starts a row of both tables, of the old table only, and of none; the tick
of the calendar wrap (RunningTickCountsAndEnters). -/
theorem test_ticks_with_a_commit :
    let staged (rows : List WindowRow) : State := { running with store := { loaded with
      window := ⟨loaded.window.active, ⟨true, rows, 1⟩⟩, commit := some ⟨[.window], .nextWindow⟩ } }
    let both := staged [⟨0, 10, 0, false, true⟩, ⟨60000, 30, 0, false, true⟩, ⟨70001, 40, 0, false, true⟩]
    let oldOnly := staged [⟨0, 10, 0, false, true⟩, ⟨60000, 30, 0, true, true⟩]
    let none_ : State := { both with time := { both.time with calendar := 69000 } }
    let wraps : State := { running with
      time := { running.time with calendar := 0xFFFFFFFF }, sched := { running.sched with elapsed := 9 } }
    ((after .secondTick both).sched.window = some 2 ∧ (after .secondTick both).store.commit = none) ∧
      ((after .secondTick oldOnly).sched.window = some 1 ∧ (after .secondTick oldOnly).store.commit = none ∧
        (after .secondTick oldOnly).sched.elapsed = 1) ∧
      (after .secondTick none_).store.commit = none_.store.commit ∧
      ((after .secondTick wraps).time.calendar = 0 ∧ (after .secondTick wraps).sched.window = some 0 ∧
        (after .secondTick wraps).sched.elapsed = 0) := by decide +kernel

/-- A due shot makes the commit pending at NEXT_SHOT and clears the sag latch in CYCLE mode with the comparator released;
a warm-up demand that begins clears the cycle hold, and one that stands does not (RunningTickCountsAndEnters). -/
theorem test_due_shot_and_presentation :
    let latched (low : Bool) (m : SagMode) : State := { running with
      meas := { running.meas with sagLatch := true, tripped := low }
      settings := { running.settings with sagMode := m } }
    let pending : State := { running with store := { loaded with commit := some ⟨[.ladder], .nextShot⟩ } }
    let presenting (was : Bool) (elapsed : Nat) : State := { running with
      sched := { running.sched with elapsed := elapsed }
      rails := { running.rails with warmUp := was, cycleHold := true } }
    ((latched false .cycle).scheduledShotDue.meas.sagLatch = false ∧
        (latched true .cycle).scheduledShotDue.meas.sagLatch = true ∧
        (latched false .latched).scheduledShotDue.meas.sagLatch = true) ∧
      (pending.scheduledShotDue.store.commit = none ∧ pending.scheduledShotDue.ramp.generation = 1) ∧
      ((presenting false 6).present.rails.warmUp = false ∧ (presenting false 7).present.rails.warmUp = true ∧
        (presenting false 7).present.rails.timeToNext = some 3) ∧
      ((presenting false 6).present.rails.cycleHold = true ∧ (presenting false 7).present.rails.cycleHold = false ∧
        (presenting true 7).present.rails.cycleHold = true) := by decide +kernel

/-- Each stage that can take a due shot (DueShotIsTakenByItsFirstStage). -/
theorem test_due_shot_stages :
    let dark : State := { running with time := { running.time with domain := .powerBad } }
    let off : State := { running with settings := { running.settings with captureMode := .off } }
    let ready : State := { running with queue := { running.queue with module := .ready } }
    let full : State := { ready with settings := { ready.settings with capacity := 0 } }
    let late : State := { running with sched := { running.sched with slot := some ⟨.scheduled, 0, none⟩ } }
    let due (s : State) : State := s.takeDueShot .scheduled false
    (running.takeDueShot .scheduled true).counters.skippedSuspended = 1 ∧ (due dark).counters.skippedPower = 1 ∧
      (due off).counters.skippedProtected = 1 ∧ (due ready).queue.records.map (·.state) = [.ordered] ∧
      (due full).counters.skippedBufferFull = 1 ∧ (due running).sched.slot = some ⟨.scheduled, 70000, none⟩ ∧
      (due late).counters.skippedLate = 1 ∧ (ready.specsOf ⟨.scheduled, 70000, none⟩).length = 1 := by decide +kernel

/-- Issues with and without an ORDERED record, tags skipping those in use (IssueCreatesOrderedRecords, 02 R30). -/
theorem test_issue_gives_free_tags :
    let s := { running with
      queue := { running.queue with records := [record 0 .held, record 1 .held], module := .ready } }
    let t := s.issue [⟨.manual, none, 56, none⟩, ⟨.manual, none, 48, none⟩]
    (s.queue.records.map (·.tag)).Nodup ∧ s.queue.has .ordered = false ∧
      t.queue.records.map (·.number) = [0, 1, 2, 3] ∧ t.sched.nextNumber = 4 ∧ t.queue.has .ordered = true ∧
      t.queue.deadline = .running 658 ∧
      t.slink.tx = [exposePacket 2 ⟨56, 157000, 0⟩ .manual, exposePacket 3 ⟨48, 64000, 0⟩ .manual] := by decide +kernel

/-- A tag in use is passed over when the number counter reaches it (IssueCreatesOrderedRecords, 02 R30). -/
theorem test_numbers_pass_over_tags :
    let s : State := { running with
      queue := { running.queue with records := [record 5 .held, record 6 .held], module := .ready }
      sched := { running.sched with nextNumber := 0x105 } }
    let t := s.issue [⟨.manual, none, 56, none⟩]
    t.queue.records.map (·.number) = [5, 6, 0x107] ∧ t.sched.nextNumber = 0x108 := by decide +kernel

/-- The shots of a METERED, a TIMED and a FIXED program, of one, five and three shots, of an EVENT, and of a MANUAL with and
without a rung (IssueCreatesOrderedRecords). -/
theorem test_positions_of_shots :
    let under (p : ProgramRow) : State := { running with
      store := { loaded with program := bank [p] }, ramp := ⟨40, 3, 0⟩, time := { running.time with calendar := 35000 } }
    let fixed : ProgramRow := { duskProgram with mode := .fixed, bracketCount := 3, fixedRung := 4, spacing := 1 }
    let center (q : Nat) : ShotSpec := ⟨.center, some 0, q, some 3⟩
    let member (o : Int) (q : Nat) : ShotSpec := ⟨.member, some o, q, none⟩
    let scheduled (p : ProgramRow) : List ShotSpec := (under p).specsOf ⟨.scheduled, 0, none⟩
    (under duskProgram).sched.window = some 0 ∧
      scheduled duskProgram = [center 40] ∧
      scheduled dawnProgram = [center 97, member (-1) 65, member 1 129, member (-2) 33, member 2 144] ∧
      scheduled fixed = [center 64, member (-1) 48, member 1 80] ∧
      (under fixed).specsOf ⟨.event, 0, none⟩ = [⟨.event, none, 64, none⟩] ∧
      (under fixed).specsOf ⟨.manual, 0, none⟩ = [⟨.manual, none, 40, none⟩] ∧
      (under fixed).specsOf ⟨.manual, 0, some 145⟩ = [⟨.manual, none, 144, none⟩] := by decide +kernel

/-! ### Supply domains -/

/-- Both entries (SupplyEntriesHoldTheMainDomain). -/
theorem test_supply_entries :
    let s := shotsIn .ready [record 1 .held]
    (s.time.domain = .run ∧ s.pins.supok = true) ∧ (after .resetEntry s).time.domain = .reset ∧
      (after .powerBadEntry s).time.domain = .powerBad ∧ (after .powerBadEntry s).queue.records = [] ∧
      (after .powerBadEntry s).counters.lost = 1 ∧ (after .powerBadEntry s).inputs.supok = true := by decide +kernel

/-- A release with and without AUTORUN, with SUPOK high and low, from a held main domain
(WarmResetReleasesTheMainDomain). -/
theorem test_warm_reset :
    let ready : State := { State.reset with
      store := loaded, settings := { State.reset.settings with autorun := true } }
    let low : State := { State.reset with pins := { State.reset.pins with supok := false } }
    (State.reset.time.domain = .reset ∧ (after .warmReset State.reset).sched.state = .stopped) ∧
      ((after .warmReset ready).sched.state = .running ∧ (after .warmReset ready).queue.module = .booting) ∧
      (after .warmReset State.reset).time.domain = .run ∧ (after .warmReset low).time.domain = .powerBad ∧
      (after .warmReset State.reset).meas.converting = some .battery := by decide +kernel

/-- A pending shot at the release, and the shot due at an AUTORUN start in RUN and in POWER_BAD
(WarmResetReleasesTheMainDomain). -/
theorem test_warm_reset_counts_its_shots :
    let waiting (high : Bool) : State := { State.reset with
      store := loaded, settings := { State.reset.settings with autorun := true }
      sched := { State.reset.sched with slot := some ⟨.event, 0, none⟩ }
      pins := { State.reset.pins with supok := high } }
    let idle (high : Bool) : State := { waiting high with settings := State.reset.settings }
    ((after .warmReset (waiting true)).counters.skippedPower = 1 ∧
        (after .warmReset (waiting true)).sched.slot = some ⟨.scheduled, 0, none⟩) ∧
      ((after .warmReset (waiting false)).counters.skippedPower = 2 ∧
        (after .warmReset (waiting false)).sched.slot = none) ∧
      ((after .warmReset (idle true)).counters.skippedPower = 1 ∧
        (after .warmReset (idle false)).counters.skippedPower = 1) ∧
      (after .warmReset (idle false)).sched.slot = none := by decide +kernel

/-- A held main domain (WarmResetReleasesTheMainDomain, PowerBadReturnKeepsTheSchedule). -/
theorem test_main_held :
    MainHeld State.reset ∧ MainHeld (after .powerBadEntry running) ∧
      (after .powerBadEntry running).pins.supok = false := by
  refine ⟨⟨by decide, fun _ => ?_⟩, ⟨by decide +kernel, fun _ => ?_⟩, by decide +kernel⟩ <;> decide +kernel

theorem test_power_bad_return :
    let s := after .powerBadEntry running
    (after .powerBadReturn s).time.domain = .run ∧ (after .powerBadReturn s).sched = s.sched ∧
      (after .powerBadReturn s).session.restTimer = .running 60001 := by decide +kernel

/-- The outputs at a return: all off, capture and heater on by their modes with a blanking window, and with no rest span
(PowerBadReturnKeepsTheSchedule). -/
theorem test_power_bad_return_outputs :
    let s := after .powerBadEntry running
    let forced : State := { s with settings := { s.settings with captureMode := .on, heaterMode := .on } }
    let restless : State := { s with settings := { s.settings with restSpan := 0 } }
    ((after .powerBadReturn s).rails.capture = false ∧ (after .powerBadReturn s).rails.recorder = false ∧
        (after .powerBadReturn s).rails.heater = false ∧ (after .powerBadReturn s).meas.blanking = .idle) ∧
      ((after .powerBadReturn forced).rails.capture = true ∧ (after .powerBadReturn forced).queue.module = .booting ∧
        (after .powerBadReturn forced).rails.heater = true ∧ (after .powerBadReturn forced).meas.blanking = .running 51) ∧
      ((∀ r, restless.tierRow = some r → 1 ≤ r.batch) ∧ (after .powerBadReturn restless).session = Session.cold) := by
  refine ⟨by decide +kernel, by decide +kernel, ?_, by decide +kernel⟩
  intro r h
  rw [show (_ : State).tierRow = none from by decide +kernel] at h
  cases h

/-- The three changes of level (InputChangesSetTheirFlags). -/
theorem test_input_changes :
    let low : State := { inRun with pins := ⟨false, false, true⟩ }
    (after .supokChangeInReset State.reset).pins.supok = false ∧
      (after .supokChangeInReset State.reset).inputs.supok = true ∧ low.pins.trig = false ∧ low.pins.service = false ∧
      (after (.trigOrServiceHigh .trig) low).inputs = ⟨true, false, false⟩ ∧
      (after (.trigOrServiceHigh .service) low).inputs = ⟨false, true, false⟩ := by decide +kernel


/-! ### Inputs -/

/-- TRIG raises an event shot, with and without a presentation, in RUN and POWER_BAD, or raises none
(InputsRaiseShotsAndWakes). -/
theorem test_trig :
    let armed : State := { running with settings := { running.settings with triggerEnable := true } }
    let dark : State := { armed with time := { armed.time with domain := .powerBad } }
    let off : State := { armed with settings := { armed.settings with captureMode := .off } }
    (armed.pins.trig = true ∧ armed.sched.refractory = .idle ∧
        armed.currentWindow = some ⟨0, 10, 0, false, true⟩) ∧
      (after .trigActive armed).sched.slot = some ⟨.event, 70000, none⟩ ∧
      (after .trigActive armed).sched.refractory = .running 10001 ∧
      (after .trigActive dark).counters.skippedPower = 1 ∧ (after .trigActive off).counters.skippedProtected = 1 ∧
      (after .trigActive running).inputs.trig = true ∧ (after .trigActive running).sched = running.sched := by
  decide +kernel

/-- SERVICE begins a wake, or does not (InputsRaiseShotsAndWakes). -/
theorem test_service :
    inRun.pins.service = true ∧ (after .serviceActive inRun).session.state = .waking ∧
      (after .serviceActive inRun).counters.serviceWakes = 1 ∧ (after .serviceActive inRun).rails.recorder = true ∧
      (after .serviceActive awake).session = awake.session ∧ (after .serviceActive awake).inputs.service = true := by
  decide +kernel

/-- A record to stamp behind a stamped one, and none (StrobeStampsTheOldestUnstamped). -/
theorem test_strobe :
    let s := shotsIn .ready [{ record 1 .ordered with strobe := some ⟨1, 1⟩ }, record 2 .ordered]
    s.time.domain = .run ∧
      (after .strobeRise s).queue.records.map (·.strobe) = [some ⟨1, 1⟩, some ⟨70000, 750⟩] ∧
      (after .strobeRise inRun).counters.strayStrobe = 1 := by decide +kernel

/-- A trip at 1 mV below the threshold, no trip at it, a release at 100 mV above it and not at 99
(ComparatorTripsAndReleases). -/
theorem test_comparator :
    let low : State := { inRun with meas := { inRun.meas with tripped := true } }
    (inRun.meas.tripped = false ∧ inRun.settings.sagEnable = true ∧ inRun.meas.blanking = .idle) ∧
      (after (.sagTrip 5999) inRun).meas.sagLatch = true ∧ (after (.sagTrip 5999) inRun).counters.sagTrips = 1 ∧
      (after (.sagTrip 6000) inRun).meas.tripped = false ∧
      (after (.comparatorLevelChange 6099) low).meas.tripped = true ∧
      (after (.comparatorLevelChange 6100) low).meas.tripped = false := by decide +kernel

/-! ### The Shot Queue -/

/-- HELLO: a boot without and with a pending shot, with and without a slot for it, and restarts
(HelloByModuleState). -/
theorem test_hello :
    let boot : State := { running with queue := { running.queue with module := .booting, bootTimer := .running 5 } }
    let waiting : State := { boot with sched := { boot.sched with slot := some ⟨.scheduled, 69999, none⟩ } }
    let full : State := { waiting with settings := { waiting.settings with capacity := 0 } }
    let restart := shotsIn .ready [record 1 .held]
    Noticed helloPacket boot boot ∧ Noticed helloPacket waiting waiting ∧ Noticed helloPacket full full ∧
      Noticed helloPacket restart restart ∧
      (after .hello boot).queue.module = .ready ∧ (after .hello boot).queue.bootTimer = .idle ∧
      ((after .hello full).counters.skippedBufferFull = 1 ∧ (after .hello full).sched.slot = none) ∧
      (after .hello restart).counters.lost = 1 ∧ (after .hello restart).queue.failures = 1 ∧
      (after .hello (shotsIn .ready [])).flags.moduleRestart = true := by
  refine ⟨noticed_of_empty rfl rfl rfl, noticed_of_empty rfl rfl rfl, noticed_of_empty rfl rfl rfl,
    noticed_of_empty rfl rfl rfl, ?_⟩
  decide +kernel

/-- Log 32: a restart that leaves no demand switches the rail off in its event; within keep-warm the rail stays on and the
module READY (HelloByModuleState). -/
theorem test_restart_can_switch_the_rail_off :
    let s (next : Option Int) : State :=
      let x := shotsIn .ready [record 1 .held]
      { x with rails := { x.rails with capture := true, demand := true, timeToNext := next }, store := loaded }
    ((after .hello (s none)).rails.capture = false ∧ (after .hello (s none)).queue.module = .unpowered) ∧
      ((after .hello (s (some 5))).rails.capture = true ∧ (after .hello (s (some 5))).queue.module = .ready) ∧
      (after .hello (s none)).counters.lost = 1 := by decide +kernel

/-- A pending shot is issued at HELLO while the rail is on (HelloByModuleState). -/
theorem test_hello_issues_the_pending_shot :
    let s : State := { running with
      queue := { running.queue with module := .booting }
      sched := { running.sched with slot := some ⟨.scheduled, 69999, none⟩ }
      rails := { running.rails with capture := true } }
    Noticed helloPacket s s ∧ (after .hello s).queue.records.map (·.state) = [.ordered] ∧
      (after .hello s).sched.slot = none ∧ (after .hello s).slink.tx.length = 1 := by
  refine ⟨noticed_of_empty rfl rfl rfl, ?_⟩
  decide +kernel

/-- FAULT and the boot limit cycle the rail; the third failure latches (ModuleFailureCyclesTheRail). -/
theorem test_module_failures :
    let s : State := { shotsIn .booting [] with
      rails := { inRun.rails with capture := true, demand := true }
      queue := { inRun.queue with module := .booting, bootTimer := .running 0, failures := 2 } }
    (s.queue.bootTimer.due = true ∧ s.time.domain = .run) ∧ Noticed (faultPacket 7) s s ∧
      (after (.fault 7) s).queue.faultCode = some 7 ∧ (after (.fault 7) s).rails.moduleLatch = true ∧
      (after .bootTimerExpiry s).rails.capture = false ∧ (after .bootTimerExpiry s).queue.module = .unpowered ∧
      (after .bootTimerExpiry s).queue.failures = 3 := by
  refine ⟨by decide, noticed_of_empty rfl rfl rfl, ?_⟩
  decide +kernel

/-- A READY module with its rail on. -/
def powered (rs : List ShotRecord) : State :=
  let s := shotsIn .ready rs
  { s with rails := { s.rails with capture := true, demand := true }, store := loaded, retention := ⟨[0, 0, 0], none⟩ }

/-- The watched record's deadline, with and without a next one (DeadlineExpiryDropsTheWatched). -/
theorem test_deadline :
    let s : State :=
      { powered [record 1 .ordered, record 2 .ordered] with
        queue := { (powered [record 1 .ordered, record 2 .ordered]).queue with deadline := .running 0 } }
    (s.queue.deadline.due = true ∧ s.queue.oldest .ordered = some (record 1 .ordered)) ∧
      (after .exposureDeadlineExpiry s).queue.records.map (·.number) = [2] ∧
      (after .exposureDeadlineExpiry s).queue.deadline = .running 7251 ∧
      (after .exposureDeadlineExpiry s).slink.tx = [dropPacket 1] ∧
      (after .exposureDeadlineExpiry s).counters.lost = 1 := by decide +kernel

/-- A FRAME that is kept and one that is dropped (FrameIsJudged). -/
theorem test_frame :
    let s := powered [record 1 .ordered, record 2 .ordered]
    Noticed (framePacket 1 6750000 0 130 0 0) s s ∧ Noticed (framePacket 1 6750000 0 105 0 0) s s ∧
      s.queue.withTag 1 = some (record 1 .ordered) ∧ s.verdictKeeps .center 130 = true ∧
      s.verdictKeeps .center 105 = false ∧
      (after (.frame 1 6750000 0 130 0 0) s).queue.records.map (·.state) = [.held, .ordered] ∧
      (after (.frame 1 6750000 0 130 0 0) s).retention.lastKeptCenter = some 130 ∧
      (after (.frame 1 6750000 0 130 0 0) s).ramp.lastCorrection = -3 ∧
      (after (.frame 1 6750000 0 105 0 0) s).queue.records.map (·.number) = [2] ∧
      (after (.frame 1 6750000 0 105 0 0) s).slink.tx = [dropPacket 1] ∧
      (after (.frame 2 6750000 0 105 0 0) s).queue.records.map (·.number) = [1] := by
  refine ⟨noticed_of_empty rfl rfl rfl, noticed_of_empty rfl rfl rfl, ?_⟩
  decide +kernel

/-- Stray notices of each kind (StrayNoticesAreCounted). -/
theorem test_stray_notices :
    let s := powered [record 1 .ordered, record 2 .held]
    let boot := shotsIn .booting []
    packetOf (.delivered 1) = some (.s, deliveredPacket 1) ∧ Noticed (deliveredPacket 1) inRun inRun ∧
      Noticed (framePacket 9 0 0 0 0 0) s s ∧ Noticed (framePacket 2 0 0 0 0 0) s s ∧
      Noticed (deliveredPacket 1) s s ∧ Noticed (undeliveredPacket 9) s s ∧ Noticed (undeliveredPacket 2) s s ∧
      (after (.delivered 1) inRun).counters.strayNotice = 1 ∧ (after (.undelivered 1) boot).counters.strayNotice = 1 ∧
      (after (.frame 9 0 0 0 0 0) s).slink.tx = [dropPacket 9] ∧
      (after (.frame 2 0 0 0 0 0) s).counters.strayFrame = 1 ∧ (after (.frame 2 0 0 0 0 0) s).slink.tx = [] ∧
      (after (.delivered 1) s).counters.strayDelivery = 1 ∧ (after (.delivered 9) s).counters.strayDelivery = 1 ∧
      (after (.undelivered 9) s).counters.strayDelivery = 1 ∧ after (.undelivered 2) s = s := by
  refine ⟨rfl, noticed_of_empty rfl rfl rfl, noticed_of_empty rfl rfl rfl, noticed_of_empty rfl rfl rfl,
    noticed_of_empty rfl rfl rfl, noticed_of_empty rfl rfl rfl, noticed_of_empty rfl rfl rfl, ?_⟩
  decide +kernel

/-- Deliveries, failures and the delivery timer (DeliveryEndsOrFails). -/
theorem test_delivery :
    let again := { record 1 .releasing with failures := 1 }
    let s := powered [record 1 .releasing, record 2 .held]
    let due : State := { s with queue := { s.queue with deliveryTimer := .running 0 } }
    Noticed (deliveredPacket 1) s s ∧ Noticed (undeliveredPacket 1) s s ∧
      (due.queue.deliveryTimer.due = true ∧ due.queue.oldest .releasing = some (record 1 .releasing)) ∧
      (after (.delivered 1) s).queue.records.map (·.number) = [2] ∧
      (after (.delivered 2) s).queue.records.map (·.number) = [1] ∧ (after (.delivered 2) s).counters.delivered = 1 ∧
      (after (.undelivered 1) s).queue.records.map (fun r => (r.state, r.failures)) = [(.held, 1), (.held, 0)] ∧
      (after (.undelivered 1) (powered [again, record 2 .held])).slink.tx = [dropPacket 1] ∧
      (after .deliveryTimerExpiry due).queue.records.map (·.state) = [.held, .held] := by
  refine ⟨noticed_of_empty rfl rfl rfl, noticed_of_empty rfl rfl rfl, ?_⟩
  decide +kernel

/-- A module's relay in session and out of it, and the reply limit (ModuleRelayIsPassedOn). -/
theorem test_module_relay :
    let s := session .awake (powered [])
    let relaying (x : State) : State := { x with queue := { x.queue with relay := .inProgress, relayLimit := .running 0 } }
    Noticed (relayPacket [5]) s s ∧ Noticed (relayPacket [5]) (relaying s) (relaying s) ∧
      (relaying s).queue.relayLimit.due = true ∧ (after (.moduleRelay [5]) s).plink.tx = [relayPacket [5]] ∧
      (after (.moduleRelay [5]) (relaying s)).queue.relay = .idle ∧
      (after (.moduleRelay [5]) (powered [])).counters.strayNotice = 1 ∧
      (after .relayReplyLimitExpiry (relaying s)).queue.relay = .idle := by
  refine ⟨noticed_of_empty rfl rfl rfl, noticed_of_empty rfl rfl rfl, ?_⟩
  decide +kernel

/-! ### Sessions -/

/-- READY in WAKING, AWAKE and CLOSING, with and without a record to offer (ReadyReportsThenOffers). -/
theorem test_ready :
    let waking := session .waking (powered [record 1 .held])
    let offered := session .awake (powered [record 1 .offered])
    let closing := session .closing (powered [record 1 .releasing])
    Handed .p readyPacket waking waking ∧ waking.roomP 6 = true ∧ Handed .p readyPacket closing closing ∧
      (after .ready waking).session.state = .awake ∧ (after .ready waking).plink.tx.length = 6 ∧
      (after .ready offered).plink.tx.length = 6 ∧ (after .ready closing).plink.tx.length = 5 ∧
      (after .ready (session .waking inRun)).plink.tx.map (·.kind) = [0x20, 0x20, 0x20, 0x20, 0x20] := by
  refine ⟨handed_of_empty rfl rfl, rfl, handed_of_empty rfl rfl, ?_⟩
  decide +kernel

/-- SLEEP in each session state, and CLOSING's end (SleepEndsTheSession). -/
theorem test_sleep :
    let idle := session .awake (powered [record 1 .offered])
    let busy := session .awake (powered [record 1 .releasing])
    let closing := session .closing (powered [record 1 .held])
    Handed .p sleepPacket idle idle ∧ idle.queue.has .releasing = false ∧ busy.queue.has .releasing = true ∧
      (after .sleep idle).session.state = .off ∧ (after .sleep idle).session.restTimer = .running 60001 ∧
      (after .sleep busy).session.state = .closing ∧ after .sleep closing = closing ∧
      (after .sleep inRun).counters.outOfSession = 1 ∧ closing.sessionAfter.session.state = .off := by
  refine ⟨handed_of_empty rfl rfl, ?_⟩
  decide +kernel

/-- CLAIM and WAIVE taken, and stale before the OFFER is sent or for another tag (ClaimAndWaiveAnswerTheOffer). -/
theorem test_claim_and_waive :
    let s := session .awake (powered [record 1 .offered])
    let sent : State := { s with session := { s.session with offerSent := true } }
    Served (claimPacket 1) 2 sent sent ∧ Served (waivePacket 1) 2 sent sent ∧ Served (claimPacket 1) 2 s s ∧
      sent.queue.oldest .offered = some (record 1 .offered) ∧
      (after (.claim 1) sent).queue.records.map (·.state) = [.releasing] ∧
      (after (.claim 1) sent).slink.tx = [releasePacket 1] ∧
      (after (.claim 1) sent).plink.tx = [⟨0x22, [3, 0, 1, 0, 0, 0, 1]⟩] ∧
      (after (.waive 1) sent).counters.waived = 1 ∧ (after (.waive 1) sent).queue.records = [] ∧
      (after (.claim 1) s).plink.tx = [⟨0x22, [3, 9, 1, 0, 0, 0, 1]⟩] ∧
      (after (.waive 2) sent).queue.records.map (·.state) = [.offered] := by
  refine ⟨served_of_empty rfl rfl rfl rfl, served_of_empty rfl rfl rfl rfl, served_of_empty rfl rfl rfl rfl, ?_⟩
  decide +kernel

/-- The four timers of a session, the second offer timeout among them (SessionTimeouts). -/
theorem test_session_timeouts :
    let timed (st : SessionState) (n : Nat) : State := { powered [record 1 .offered] with
      session := { Session.cold with
        state := st, readyTimer := .running 0, awakeTimer := .running 0, offerTimer := .running 0
        restTimer := .running 0, timeouts := n } }
    ((timed .waking 0).session.readyTimer.due = true ∧ (timed .awake 1).queue.has .offered = true) ∧
      (after .readyTimerExpiry (timed .waking 0)).counters.noShows = 1 ∧
      (after .readyTimerExpiry (timed .waking 0)).session.state = .off ∧
      (after .awakeTimerExpiry (timed .closing 0)).counters.forcedSleeps = 1 ∧
      (after .awakeTimerExpiry (timed .awake 0)).flags.forcedSleep = true ∧
      (after .offerTimeout (timed .awake 0)).session.timeouts = 1 ∧
      (after .offerTimeout (timed .awake 0)).session.state = .awake ∧
      (after .offerTimeout (timed .awake 1)).session.state = .off ∧
      (after .restTimerExpiry (timed .off 0)).session.restTimer = .idle := by decide +kernel

/-- Log 34: at REST SPAN 0 a session end counts out a READY left in the receive queue, and the wake of its event waits for
another (SessionEndEffects). -/
theorem test_end_discards_before_the_wake :
    let s : State := normalTier { awake with
      store := loaded
      plink := { awake.plink with rx := [readyPacket] }
      queue := { awake.queue with records := [{ record 1 .held with heldSince := some 60000 }] }
      settings := { awake.settings with restSpan := 0 } }
    s.endSession.session.state = .waking ∧ s.endSession.plink.rx = [] ∧ s.endSession.counters.outOfSession = 1 := by
  decide +kernel

/-- Log 33: an offer timeout offers the same record again where it is the oldest HELD one, and an older one that a FRAME out of
order made HELD before it (SessionTimeouts). -/
theorem test_offer_timeout_offers_the_oldest_held :
    let timed (rs : List ShotRecord) : State := { powered rs with
      session := { Session.cold with state := .awake, offerTimer := .running 0, offerSent := true } }
    let states (rs : List ShotRecord) : List RecState :=
      (after .offerTimeout (timed rs)).queue.records.map (·.state)
    states [record 1 .offered, record 2 .held] = [.offered, .held] ∧
      states [record 1 .held, record 2 .offered] = [.offered, .held] ∧
      (after .offerTimeout (timed [record 1 .held, record 2 .offered])).plink.tx = [offerPacket (record 1 .held)] ∧
      (after .offerTimeout (timed [record 1 .held, record 2 .offered])).session.offerSent = false := by decide +kernel

/-- Requests out of session (RequestsOutOfSessionAreDiscarded). -/
theorem test_out_of_session :
    packetOf .query = some (.p, queryPacket) ∧ Handed .p queryPacket inRun inRun ∧ Handed .p readyPacket inRun inRun ∧
      inRun.session.state = .off ∧ (after .query inRun).counters.outOfSession = 1 ∧
      (after (.claim 3) (session .waking inRun)).counters.outOfSession = 1 ∧
      (after .ready inRun).counters.outOfSession = 1 := by
  refine ⟨rfl, handed_of_empty rfl rfl, handed_of_empty rfl rfl, ?_⟩
  decide +kernel

/-- Packets that wait, join the queue or overrun, at the borders of room (PacketsWaitForTheirCondition). -/
theorem test_packets_wait :
    let sent (n : Nat) : State := { awake with plink := { awake.plink with tx := List.replicate n startPacket } }
    let behind (s : State) (rx : List Packet) : State := { s with plink := { s.plink with rx := rx } }
    let modul (n : Nat) : State := { inRun with slink := { inRun.slink with tx := List.replicate n (dropPacket 1) } }
    packetOf .query = some (.p, queryPacket) ∧
      (after .query (sent 2)).plink.rx = [] ∧ (after .query (sent 3)).plink.rx = [queryPacket] ∧
      (after .start (sent 7)).plink.rx = [] ∧ (after .start (sent 8)).plink.rx = [startPacket] ∧
      (after (.claim 1) (sent 7)).plink.rx = [claimPacket 1] ∧ (after .ready (sent 3)).plink.rx = [readyPacket] ∧
      after .start (behind (sent 8) [startPacket]) = behind (sent 8) [startPacket] ∧
      (after .stop (behind awake [startPacket])).plink.rx = [startPacket, stopPacket] ∧
      (after .stop (behind awake (List.replicate 4 startPacket))).counters.pOverruns = 1 ∧
      (after .hello (modul 3)).slink.rx = [] ∧ (after .hello (modul 4)).slink.rx = [helloPacket] ∧
      after .start State.reset = State.reset := by decide +kernel


/-! ### Requests -/

/-- An OK answer's packet. -/
def okAnswer (kind : Byte) : Packet := ⟨0x22, [kind, 0, 0]⟩

/-- Every stage of a SET, at the borders of a range (SetAnswersByStage, SettingsRangesAndValues). -/
theorem test_set_stages :
    let s := session .awake (powered [record 1 .held, record 2 .held])
    let going := session .awake running
    setRequest (.set 3 255) = some (3, 255) ∧ setRequest (.setCapacity 1) = some (2, 1) ∧
      Served (setPacket 3 255) 1 s s ∧ Served (setPacket 27 0) 1 s s ∧ Served (setPacket 26 0) 1 going going ∧
      (after (.set 27 0) s).plink.tx = [⟨0x22, [0x10, 5, 0]⟩] ∧
      (after (.set 3 256) s).plink.tx = [⟨0x22, [0x10, 6, 0]⟩] ∧ (after (.set 3 255) s).settings.warmUp = 255 ∧
      (after (.setCapacity 1) s).plink.tx = [⟨0x22, [0x10, 1, 0]⟩] ∧
      (after (.setRampPosition 0) going).plink.tx = [⟨0x22, [0x10, 1, 0]⟩] ∧
      (after (.setSagThreshold 16000) s).settings.sagThreshold = 16000 ∧
      (after (.setSagThreshold 16001) s).settings.sagThreshold = 6000 ∧ Item.ofCode 3 = some .warmUp := by
  refine ⟨rfl, rfl, served_of_empty rfl rfl rfl rfl, served_of_empty rfl rfl rfl rfl,
    served_of_empty rfl rfl rfl rfl, ?_⟩
  decide +kernel

/-- CLOCK and DAY OFFSET, RUNNING and STOPPED, with and without a new day (ClockSetsReselectSilently). -/
theorem test_clock_sets :
    let s : State := session .awake { running with session := { running.session with wakesToday := 5 } }
    Served (setPacket 0 70001) 1 s s ∧ Served (setPacket 1 0xFFFFFFFF) 1 s s ∧
      ((after (.setClock 70001) s).sched.window = some 1 ∧ (after (.setClock 70001) s).sched.elapsed = 0 ∧
        (after (.setClock 70001) s).queue.records = [] ∧ (after (.setClock 70001) s).time = ⟨70001, 0, 0, .run⟩) ∧
      (after (.setClock 70001) s).session.wakesToday = 5 ∧ (after (.setClock 86400) s).session.wakesToday = 0 ∧
      (after (.setDayOffset 0xFFFFFFFF) s).time = ⟨70000, 750, -1, .run⟩ ∧
      (after (.setDayOffset 50401) s).time = s.time ∧ (after (.setClock 5) awake).time.calendar = 5 := by
  refine ⟨served_of_empty rfl rfl rfl rfl, served_of_empty rfl rfl rfl rfl, ?_⟩
  decide +kernel

/-- The items with an effect at once (SettingsWithEffects). -/
theorem test_sets_with_effects :
    let low : State := { awake with
      meas := { awake.meas with tripped := true }, settings := { awake.settings with sagEnable := false } }
    let held : State := { awake with rails := { awake.rails with cycleHold := true }, store := loaded }
    Served (setPacket 16 1) 1 held held ∧ Served (setPacket 21 1) 1 low low ∧
      (after (.setCapacity 8) awake).settings.capacity = 8 ∧ (after (.setCaptureMode 1) held).rails.capture = true ∧
      (after (.setCaptureMode 1) held).rails.cycleHold = false ∧
      (after (.setHeaterMode 1) held).rails.heater = true ∧
      (after (.setSagEnable 1) low).meas.sagLatch = true ∧ (after (.setSagEnable 1) awake).meas.sagLatch = false ∧
      (after (.setSagEnable 0) awake).settings.sagEnable = false ∧
      (after (.setRampPosition 1008) held).ramp = ⟨144, 1, 0⟩ ∧ (after (.setRampPosition 9) awake).ramp = ⟨0, 1, 0⟩ := by
  refine ⟨served_of_empty rfl rfl rfl rfl, served_of_empty rfl rfl rfl rfl, ?_⟩
  decide +kernel

/-- GET, known and unknown (GetAnswersPresentValue). -/
theorem test_get :
    Served (getPacket 2) 1 awake awake ∧ Served (getPacket 27) 1 awake awake ∧
      (after (.get 2) awake).plink.tx = [⟨0x22, [0x11, 0, 1, 0, 0, 0, 4]⟩] ∧
      (after (.get 0) awake).plink.tx = [⟨0x22, [0x11, 0, 1, 0, 1, 0x11, 0x70]⟩] ∧
      (after (.get 27) awake).plink.tx = [⟨0x22, [0x11, 5, 0]⟩] := by
  refine ⟨served_of_empty rfl rfl rfl rfl, served_of_empty rfl rfl rfl rfl, ?_⟩
  decide +kernel

/-- QUERY (QuerySendsFiveParts). -/
theorem test_query :
    let s : State := { awake with inputs := ⟨true, true, true⟩ }
    Served queryPacket 6 s s ∧ (after .query s).plink.tx.map (·.payload.length) = [3, 23, 21, 44, 29, 27] ∧
      (after .query s).inputs = ⟨false, false, false⟩ := by
  refine ⟨served_of_empty rfl rfl rfl rfl, ?_⟩
  decide +kernel

/-- The bytes of STATUS part 0 with every optional field, and of an OFFER, an ANSWER and the commands to the module
(QuerySendsFiveParts). -/
theorem test_status_and_packet_fields :
    let s : State := { running with
      sched := { running.sched with elapsed := 258, slot := some ⟨.event, 7, none⟩ }, ramp := ⟨300, 2, -3⟩
      meas := { running.meas with
        lastBattery := some 12000, lastTemperature := some (-5), lastAux := some 1, tier := .lean, tripped := true } }
    let r : ShotRecord := { record 258 .offered with
      facts := some ⟨9, 8, 7⟩, offset := some (-1), strobe := some ⟨1, 513⟩ }
    s.statusPart0.payload = [0, 0, 1, 0x11, 0x70, 2, 0xEE, 1, 0x11, 0x70, 1, 0, 1, 2, 1, 0x2C, 0, 2, 0xFD, 3, 1, 0, 0x1F] ++
        [0, 1, 0, 0, 0, 7, 0x2E, 0xE0, 0xFF, 0xFB, 0, 1] ∧
      (offerPacket r).payload = [2, 0, 0, 1, 2, 0, 7, 0xFF, 0, 0, 0, 1, 0x11, 0x66, 0, 0, 0, 0, 0, 1, 2, 1] ++
        [0, 0x66, 0xFF, 0x30, 0, 9, 8, 7] ∧
      answerPacket 0x11 .badSequence (some 258) = ⟨0x22, [0x11, 7, 1, 0, 0, 1, 2]⟩ ∧
      exposePacket 2 ⟨0, 258, 4⟩ .manual = ⟨0x40, [2, 0, 0, 1, 2, 4, 3]⟩ := by decide +kernel

/-- Every group of CLEAR, by name and by code, and an unknown one (ClearClearsItsGroup). -/
theorem test_clear :
    let s : State := { awake with
      counters := { awake.counters with lost := 7 }, flags := { awake.flags with sag := true }
      rails := { awake.rails with moduleLatch := true }, meas := { awake.meas with sagLatch := true }
      queue := { awake.queue with failures := 3 } }
    Served (clearPacket 0) 1 s s ∧ Served (clearPacket 1) 1 s s ∧ Served (clearPacket 2) 1 s s ∧
      Served (clearPacket 3) 1 s s ∧
      ((after .clearCounters s).counters.lost = 0 ∧ (after (.clear 0) s).counters.lost = 0) ∧
      ((after .clearFlags s).flags.sag = false ∧ (after (.clear 1) s).flags.sag = false) ∧
      ((after .clearLatch s).rails.moduleLatch = false ∧ (after .clearLatch s).queue.failures = 0 ∧
        (after (.clear 2) s).meas.sagLatch = false) ∧
      (after (.clear 3) s).plink.tx = [⟨0x22, [0x14, 6, 0]⟩] := by
  refine ⟨served_of_empty rfl rfl rfl rfl, served_of_empty rfl rfl rfl rfl, served_of_empty rfl rfl rfl rfl,
    served_of_empty rfl rfl rfl rfl, ?_⟩
  decide +kernel

/-- START and STOP from each state (StartAndStop). -/
theorem test_start_and_stop :
    let stopped : State := { awake with store := loaded }
    let committed : State := { stopped with store := { loaded with commit := some ⟨[.tier], .nextShot⟩ } }
    let going := session .awake running
    let pending : State := { going with sched := { going.sched with slot := some ⟨.event, 0, none⟩ } }
    Served startPacket 1 stopped stopped ∧ Served startPacket 1 awake awake ∧ Served stopPacket 1 pending pending ∧
      ((after .start stopped).sched.state = .running ∧ (after .start stopped).sched.window = some 0 ∧
        (after .start stopped).sched.slot = some ⟨.scheduled, 70000, none⟩) ∧
      (after .start committed).store.commit = none ∧ (after .start going).sched = going.sched ∧
      (after .start awake).plink.tx = [⟨0x22, [0x12, 2, 0]⟩] ∧ (after .stop pending).counters.skippedStopped = 1 ∧
      (after .stop pending).sched.slot = none ∧ (after .stop going).sched.window = none ∧
      (after .stop awake).plink.tx = [okAnswer 0x13] := by
  refine ⟨served_of_empty rfl rfl rfl rfl, served_of_empty rfl rfl rfl rfl, served_of_empty rfl rfl rfl rfl, ?_⟩
  decide +kernel

/-- Every answer of SHOOT (ShootAnswersByFirstTest). -/
theorem test_shoot :
    let s := session .awake (powered [])
    let cold : State := { s with queue := { s.queue with module := .unpowered } }
    let answerOf (x : State) (r : Option Word16) : Option Byte := ((after (.shoot r) x).plink.tx.head?).bind (·.payload[1]?)
    Served (shootPacket (some 1008)) 1 s s ∧ answerOf s (some 1009) = some 6 ∧ answerOf awake none = some 2 ∧
      answerOf { s with settings := { s.settings with captureMode := .off } } none = some 4 ∧
      answerOf { s with meas := { s.meas with tier := .critical } } none = some 4 ∧
      answerOf { s with sched := { s.sched with slot := some ⟨.manual, 0, none⟩ } } none = some 1 ∧
      answerOf { s with settings := { s.settings with capacity := 0 } } none = some 3 ∧
      (after (.shoot (some 1008)) s).queue.records.map (·.exposure) = [⟨144, 30000000, 8⟩] ∧
      (after (.shoot none) s).queue.records.map (·.role) = [.manual] ∧
      (after (.shoot (some 56)) cold).sched.slot = some ⟨.manual, 70000, some 56⟩ := by
  refine ⟨served_of_empty rfl rfl rfl rfl, ?_⟩
  decide +kernel

/-- MEASURE and RELAY, each answer (MeasureAndRelayRequests). -/
theorem test_measure_and_relay :
    let s := session .awake (powered [record 1 .held])
    let busy := session .awake (powered [record 1 .ordered])
    Served (measurePacket 7) 1 s s ∧ Served (relayPacket [1]) 1 s s ∧ Served (relayPacket [1]) 1 busy busy ∧
      (after (.measure 0) s).plink.tx = [⟨0x22, [0x16, 6, 0]⟩] ∧
      (after (.measure 8) s).plink.tx = [⟨0x22, [0x16, 6, 0]⟩] ∧
      (after (.measure 7) s).meas.converting = some .battery ∧
      (after (.measure 7) s).meas.requests = ⟨false, true, true⟩ ∧
      (after (.relay [1]) awake).plink.tx = [⟨0x22, [0x18, 2, 0]⟩] ∧
      (after (.relay [1]) busy).plink.tx = [⟨0x22, [0x18, 1, 0]⟩] ∧
      (after (.relay [1]) s).slink.tx = [relayPacket [1]] ∧ (after (.relay [1]) s).queue.relayLimit = .running 1001 := by
  refine ⟨served_of_empty rfl rfl rfl rfl, served_of_empty rfl rfl rfl rfl, served_of_empty rfl rfl rfl rfl, ?_⟩
  decide +kernel

/-! ### Tables -/

/-- A load of the thermal table in progress, with no row yet. -/
def loading : State :=
  { awake with store := { loaded.emptyStaged .thermal with load := some ⟨.thermal, 0, 0, 0⟩ } }

/-- OPEN and ROW, each answer (OpenAndRowLoadTheStagedBank). -/
theorem test_open_and_row :
    let s : State := { awake with store := loaded }
    let waits : State := { awake with store := { loaded with commit := some ⟨[.tier], .nextShot⟩ } }
    let fields : List Byte := [0x03, 0x52, 4, 1]
    Served (openPacket 6) 1 s s ∧ Served (openPacket 6) 1 loading loading ∧
      Served (rowPacket 6 0 fields) 1 loading loading ∧
      ((after (.openTable 6) s).store.load = some ⟨.thermal, 0, 0, 0⟩ ∧
        (after (.openTable 6) s).store.thermal.staged.valid = false) ∧
      (after (.openTable 6) loading).store.load = none ∧ (after (.openTable 7) s).plink.tx = [⟨0x22, [0x19, 6, 0]⟩] ∧
      (after (.openTable 5) waits).plink.tx = [⟨0x22, [0x19, 1, 0]⟩] ∧
      (after (.row 6 0 fields) loading).store.thermal.staged.rows = [⟨850, 4, true⟩] ∧
      (after (.row 6 0 fields) loading).store.load = some ⟨.thermal, 1, 1, 96⟩ ∧
      (after (.row 6 1 fields) loading).plink.tx = [⟨0x22, [0x1A, 7, 0]⟩] ∧
      (after (.row 6 0 [0x03, 0x53, 4, 1]) loading).plink.tx = [⟨0x22, [0x1A, 6, 0]⟩] ∧
      (after (.row 6 0 fields) s).plink.tx = [⟨0x22, [0x1A, 7, 0]⟩] := by
  refine ⟨served_of_empty rfl rfl rfl rfl, served_of_empty rfl rfl rfl rfl, served_of_empty rfl rfl rfl rfl, ?_⟩
  decide +kernel

/-- CLOSE and COMMIT, each answer (CloseSealsAndCommitSwaps). -/
theorem test_close_and_commit :
    let full := after (.row 6 0 [0x03, 0x52, 4, 1]) loading
    let full' : State := { full with plink := awake.plink }
    let s : State := { awake with store := loaded }
    let sealed : State := { after (.close 1 96) full' with plink := awake.plink }
    let wrong : State := { s with store := { loaded with program := ⟨loaded.program.active, ⟨true, [dawnProgram, duskProgram], 1⟩⟩, ladder := ⟨loaded.ladder.active, ⟨true, dawnLadder.take 4, 1⟩⟩ } }
    Served (closePacket 1 96) 1 full' full' ∧ Served (commitPacket 0x40 0) 1 sealed sealed ∧
      (sealed.store.thermal.staged = ⟨true, [⟨850, 4, true⟩], 96⟩ ∧ sealed.store.load = none) ∧
      (after (.close 1 95) full').store.thermal.staged.valid = false ∧
      (after (.close 1 96) s).plink.tx = [⟨0x22, [0x1B, 7, 0]⟩] ∧
      commitOf 0x40 0 = some ⟨[.thermal], .atOnce⟩ ∧
      (after (.commit 0x40 0) sealed).store.thermal.active.rows = [⟨850, 4, true⟩] ∧
      (after (.commit 0x40 1) sealed).store.commit = some ⟨[.thermal], .nextShot⟩ ∧
      (after (.commit 0 0) s).plink.tx = [⟨0x22, [0x1C, 6, 0]⟩] ∧
      (after (.commit 0x40 3) s).plink.tx = [⟨0x22, [0x1C, 6, 0]⟩] ∧
      (after (.commit 0x20 0) full').plink.tx = [⟨0x22, [0x1C, 7, 0]⟩] ∧
      (after (.commit 1 0) awake).plink.tx = [⟨0x22, [0x1C, 2, 0]⟩] ∧
      (after (.commit 4 0) wrong).plink.tx = [⟨0x22, [0x1C, 8, 0]⟩] ∧
      (after (.commit 1 0) (after (.commit 0x40 1) sealed)).plink.tx.getLast? = some ⟨0x22, [0x1C, 1, 0]⟩ := by
  refine ⟨served_of_empty (by decide +kernel) (by decide +kernel) (by decide +kernel) (by decide +kernel),
    served_of_empty (by decide +kernel) (by decide +kernel) (by decide +kernel) (by decide +kernel), ?_⟩
  decide +kernel

/-- Swaps of each kind of table (SwapExchangesNamedBanks). -/
theorem test_swap :
    let s := normalTier { running with
      ramp := ⟨10, 7, 3⟩, meas := { running.meas with lastTemperature := some 300 }
      store := { loaded with window := ⟨loaded.window.active, ⟨true, [⟨0, 10, 0, false, false⟩], 2⟩⟩ } }
    let t := s.swap [.window, .ladder, .tier, .thermal, .retention]
    (t.sched.window = some 0 ∧ t.store.window.active.check = 2) ∧ t.ramp = ⟨32, 8, 3⟩ ∧ t.meas.tier = .normal ∧
      t.rails.band = some 1 ∧ t.retention.decimation = [0, 0, 0] ∧ (s.swap [.correction]).ramp = s.ramp := by
  decide +kernel

/-- One good row of every table, and each with a value just out of range or another length
(OpenAndRowLoadTheStagedBank). -/
theorem test_row_value_checks :
    (readWindowRow [1, 0x51, 0x7F, 1, 0x51, 0x80, 7, 1, 0] = some ⟨86399, 86400, 7, true, false⟩ ∧
        readWindowRow [1, 0x51, 0x80, 1, 0x51, 0x80, 7, 1, 0] = none ∧ readWindowRow [0, 0, 0, 0, 0, 0, 7, 1, 0] = none ∧
        readWindowRow [0, 0, 0, 0, 0, 1, 8, 1, 0] = none ∧ readWindowRow [0, 0, 0, 0, 0, 1, 7, 1] = none) ∧
      (readProgramRow [0, 118, 6, 12, 2, 9, 20, 1, 2, 0, 0, 0] = some duskProgram ∧
        readProgramRow [3, 118, 6, 12, 2, 9, 20, 1, 2, 0, 0, 0] = none ∧
        readProgramRow [0, 118, 6, 12, 2, 9, 20, 2, 2, 0, 0, 0] = none) ∧
      (readRung [0x0E, 0x4E, 0x1C, 0, 31] = some ⟨240000000, 31⟩ ∧ readRung [0x0E, 0x4E, 0x1C, 1, 31] = none ∧
        readRung [0, 0, 0, 0, 0] = none) ∧
      (readCorrectionRow [0xFF, 1, 0xC0] = some ⟨-255, -64⟩ ∧ readCorrectionRow [0xFF, 0, 0xC0] = none ∧
        readCorrectionRow [0, 255, 65] = none) ∧
      (readRetentionRow [5, 0, 100, 15, 2, 1, 2, 2] =
          some ⟨[.center, .event], 0, 100, [.full, .normal, .lean, .critical], .unchanged, 1, .keepEvery, 2⟩ ∧
        readRetentionRow [16, 0, 100, 15, 2, 1, 2, 2] = none ∧ readRetentionRow [5, 0, 100, 15, 2, 1, 2, 1] = none) ∧
      (readTierRow [0x4E, 0x20, 3, 0xE8, 4, 8, 1, 0x51, 0x80, 255, 1] =
          some ⟨20000, 1000, .suspend, 8, 86400, 255, true⟩ ∧
        readTierRow [0x4E, 0x21, 3, 0xE8, 4, 8, 1, 0x51, 0x80, 255, 1] = none ∧
        readTierRow [0, 0, 0, 0, 5, 8, 0, 0, 0, 0, 0] = none) ∧
      (readThermalRow [0xFE, 0x70, 16, 0] = some ⟨-400, 16, false⟩ ∧ readThermalRow [0xFE, 0x6F, 16, 0] = none ∧
        readThermalRow [3, 0x52, 17, 0] = none) := by decide +kernel

/-- Every table's own check, passed and failed, and the cross checks by the banks after the swap, EMPTY ones among them
(CloseSealsAndCommitSwaps). -/
theorem test_table_checks :
    let small (b : Bank Rung) : TableStore := { loaded with ladder := ⟨loaded.ladder.active, b⟩ }
    [Table.window, .program, .ladder, .correction, .retention, .tier, .thermal].map loaded.stagedOk =
        [true, true, true, true, true, true, true] ∧
      (windowTableOk [] = false ∧ windowTableOk [⟨5, 1, 0, true, true⟩, ⟨5, 1, 0, true, true⟩] = false) ∧
      programTableOk [{ duskProgram with floor := 10 }] = false ∧
      (ladderTableOk [⟨1000, 0⟩] = false ∧ ladderTableOk [⟨1000, 0⟩, ⟨1000, 0⟩] = false ∧
        ladderTableOk [⟨1000, 0⟩, ⟨1000, 1⟩] = true) ∧
      correctionTableOk [⟨-1, 3⟩, ⟨254, 0⟩] = false ∧ retentionTableOk [⟨[.center], 5, 4, [.full], .any, 1, .keep, 2⟩] = false ∧
      tierTableOk (loaded.tier.active.rows.take 3) = false ∧ thermalTableOk [⟨0, 16, true⟩, ⟨849, 4, true⟩] = false ∧
      ((small ⟨true, dawnLadder.take 9, 0⟩).crossOk [.ladder] = false ∧
        (small ⟨true, dawnLadder.take 9, 0⟩).crossOk [.program] = true ∧
        (small ⟨false, [], 0⟩).crossOk [.ladder] = true) ∧
      commitOf 0x41 2 = some ⟨[.window, .thermal], .nextWindow⟩ := by decide +kernel

/-- The clamp of an entry that moves the ramp and one that does not; swaps of PROGRAM and of WINDOW while RUNNING
(SwapExchangesNamedBanks). -/
theorem test_swap_clamps :
    let at_ (q : Nat) : State := { running with ramp := ⟨q, 7, 3⟩ }
    let narrow : State := { at_ 100 with store := { loaded with
      program := ⟨loaded.program.active, ⟨true, [{ duskProgram with ceiling := 5 }], 2⟩⟩ } }
    let moved : State := { at_ 100 with store := { loaded with
      window := ⟨loaded.window.active, ⟨true, [⟨0, 10, 1, false, true⟩], 2⟩⟩
      program := bank [duskProgram, { duskProgram with ceiling := 5 }] } }
    (at_ 100).entryClamp = at_ 100 ∧ (at_ 20).entryClamp.ramp = ⟨32, 8, 3⟩ ∧
      (narrow.swap [.program]).ramp = ⟨80, 8, 3⟩ ∧ (moved.swap [.window]).ramp = ⟨80, 8, 3⟩ ∧
      ((at_ 100).swap [.window]).ramp = ⟨100, 7, 3⟩ ∧ ((at_ 100).swap [.program]).ramp = ⟨100, 8, 3⟩ := by decide +kernel

/-- A swap of WINDOW while RUNNING keeps elapsed and the pending slot, and selects the window alone
(SwapExchangesNamedBanks). -/
theorem test_swap_keeps_the_rest_of_the_scheduler :
    let s : State := { running with
      sched := { running.sched with elapsed := 7, window := some 1, slot := some ⟨.event, 5, none⟩ } }
    s.sched.state = .running ∧ (s.swap [.window]).sched = { s.sched with window := some 0 } ∧
      (s.swap [.tier]).sched = s.sched := by decide +kernel

/-! ### Measurement and heater -/

/-- Completions of each channel, beyond the ranges (MeasurementAndHeaterTimeouts, TierAndBandSelection). -/
theorem test_conversions :
    let s (c : Channel) : State := { running with
      meas := { running.meas with converting := some c, conversion := .running 0 } }
    ((s .battery).meas.conversion.due = true ∧ (s .battery).meas.converting = some .battery) ∧
      (after (.conversionComplete 11999) (s .battery)).meas.tier = .normal ∧
      (after (.conversionComplete 12000) (s .battery)).meas.tier = .full ∧
      (after (.conversionComplete 20001) (s .battery)).meas.lastBattery = some 20000 ∧
      (after (.conversionComplete (-501)) (s .temperature)).meas.lastTemperature = some (-500) ∧
      (after (.conversionComplete 1) (s .temperature)).rails.band = some 1 ∧
      (after (.conversionComplete 1600) (s .temperature)).rails.band = some 2 ∧
      (after (.conversionComplete (-7)) (s .aux)).meas.lastAux = some 0 := by decide +kernel

/-- 08 R160: falls follow at once, rises need the margin (TierAndBandSelection). -/
theorem test_tier_hysteresis :
    let rows := loaded.tier.active.rows
    evaluateTier rows .full 11999 = .normal ∧ evaluateTier rows .full 10999 = .critical ∧
      evaluateTier rows .lean 11699 = .lean ∧ evaluateTier rows .lean 11700 = .normal ∧
      evaluateTier rows .critical 12200 = .full := by decide +kernel

/-- The measure period, the blanking window with and without a trip, the heater's period and on-phase
(MeasurementAndHeaterTimeouts). -/
theorem test_measurement_timeouts :
    let s (low : Bool) (band : Option Nat) : State := { running with
      meas := { running.meas with measurePeriod := .running 0, blanking := .running 0, tripped := low }
      rails := { running.rails with heaterPeriod := .running 0, heaterOnPhase := .running 0, phaseOn := true, band := band } }
    ((s true none).meas.measurePeriod.due = true ∧ (s true none).meas.blanking.due = true ∧
        (s true none).rails.heaterPeriod.due = true ∧ (s true none).rails.heaterOnPhase.due = true) ∧
      (after .measurePeriodExpiry (s false none)).meas.requests = ⟨true, true, false⟩ ∧
      (after .measurePeriodExpiry (s false none)).meas.measurePeriod = .running 300001 ∧
      (after .blankingWindowExpiry (s true none)).meas.sagLatch = true ∧
      (after .blankingWindowExpiry (s false none)).meas.sagLatch = false ∧
      (after .heaterPeriodExpiry (s false (some 1))).rails.heaterOnPhase = .running 5001 ∧
      (after .heaterPeriodExpiry (s false (some 0))).rails.heaterOnPhase = .idle ∧
      (after .heaterPeriodExpiry (s false (some 0))).rails.heater = true ∧
      (after .heaterOnPhaseExpiry (s false (some 1))).rails.phaseOn = false := by decide +kernel

/-! ### Exposure, ramp and retention -/

/-- Positions between rungs and on the last rung of the ladder (ExposureInterpolatesTheLadder). -/
theorem test_ladder_positions :
    dawnLadder ≠ [] ∧ clampToLadder dawnLadder 56 = 3 * 16 + 8 ∧ dawnLadder[3]? = some ⟨64000, 0⟩ ∧
      dawnLadder[4]? = some ⟨250000, 0⟩ ∧ clampToLadder dawnLadder 2000 = (dawnLadder.length - 1) * 16 ∧
      dawnLadder[dawnLadder.length - 1]? = some ⟨30000000, 8⟩ := by decide

/-- Reports that are stale, of no row, not METERED, and applied while STOPPED and RUNNING (RampUpdateStages). -/
theorem test_ramp_reports :
    let r := record 1 .ordered
    let timed : State := { running with store := { loaded with program := bank [dawnProgram] } }
    let stopped : State := { running with sched := { running.sched with state := .stopped, window := none } }
    let f : Facts := ⟨70, 0, 0⟩
    duskCorrections = [⟨-61, 16⟩] ++ ⟨-21, 8⟩ :: [⟨-1, 3⟩, ⟨20, -3⟩, ⟨60, -8⟩, ⟨255, -16⟩] ∧
      (running.rampUpdate { r with generation := some 9 } f).counters.staleReport = 1 ∧
      (inRun.rampUpdate r f) = inRun ∧ (timed.rampUpdate r f) = timed ∧
      running.currentProgram = some duskProgram ∧ (running.rampUpdate r f).ramp = ⟨32, 1, 8⟩ ∧
      (stopped.rampUpdate r f).ramp = ⟨32, 1, 8⟩ := by decide +kernel

/-- Every action, the count of KEEP_EVERY at and below its N, and no row at all (RetentionVerdict). -/
theorem test_retention_verdicts :
    let third : State := { running with retention := ⟨[2, 0, 0], some 116⟩ }
    (running.verdictKeeps .center 50 = false ∧ running.decimationAfter .center 50 = [1, 0, 0]) ∧
      (third.verdictKeeps .member 50 = true ∧ third.decimationAfter .member 50 = [0, 0, 0]) ∧
      running.verdictKeeps .center 105 = false ∧ running.verdictKeeps .center 115 = true ∧
      third.applicableRow .center 119 = none ∧ third.applicableRow .center 120 = some (2, loaded.retention.active.rows[2]) ∧
      running.verdictKeeps .manual 50 = true := by decide +kernel

/-! ### Links -/

/-- Well-formed commands with a packet, and a packet that names one (PacketsAndCommandsAgree). -/
theorem test_packet_commands_exist :
    WellFormed (.row 2 0 [0, 0, 3, 0xE8, 0]) = true ∧
      packetOf (.row 2 0 [0, 0, 3, 0xE8, 0]) = some (.p, rowPacket 2 0 [0, 0, 3, 0xE8, 0]) ∧
      commandOf .p (rowPacket 2 0 [0, 0, 3, 0xE8, 0]) = some (.row 2 0 [0, 0, 3, 0xE8, 0]) := by decide

/-- Kind codes and payloads of received packets, with unequal fields (PacketsAndCommandsAgree). -/
theorem test_packets_spelled :
    packetOf (.frame 1 0x02030405 6 7 8 9) = some (.s, ⟨0x51, [1, 2, 3, 4, 5, 6, 7, 8, 9]⟩) ∧
      packetOf (.set 3 0x01020304) = some (.p, ⟨0x10, [3, 1, 2, 3, 4]⟩) ∧
      packetOf (.shoot (some 0x0102)) = some (.p, ⟨0x15, [1, 1, 2]⟩) ∧
      packetOf (.close 5 0x0102) = some (.p, ⟨0x1B, [5, 1, 2]⟩) ∧ packetOf (.commit 3 2) = some (.p, ⟨0x1C, [3, 2]⟩) ∧
      packetOf (.setCaptureMode 2) = some (.p, ⟨0x10, [16, 0, 0, 0, 2]⟩) ∧
      packetOf (.undelivered 4) = some (.s, ⟨0x53, [4]⟩) := by decide

/-- Whole packets, bytes, gaps and transmissions (LinkPortsReceiveAndSend). -/
theorem test_link_ports :
    let full : State := { awake with
      plink := { awake.plink with rx := List.replicate 4 startPacket, tx := List.replicate 8 startPacket } }
    let part (bs : List Byte) : State := { inRun with plink := ⟨.assembling bs, .running 0, [], []⟩ }
    let offers (tx : List Packet) : State := { awake with
      plink := { awake.plink with tx := tx }, queue := { awake.queue with records := [record 1 .offered] } }
    let offer := offerPacket (record 1 .offered)
    ((inRun.port .s).receiver = .hunting ∧ (part []).plink.gap.due = true) ∧
      ((after (.packetReceived .s 0x50 [] 0x0C) inRun).slink.rx = [] ∧
        (after (.packetReceived .s 0x50 [] 0x0C) inRun).counters.strayNotice = 1) ∧
      (after (.packetReceived .s 0x50 [] 0x0D) inRun).counters.sBadPackets = 1 ∧
      (after (.packetReceived .p 0x50 [] 0x0C) inRun).flags.badPacket = true ∧
      ((after (.packetReceived .p 0x12 [] startPacket.check) full).counters.pOverruns = 1 ∧
        (after (.packetReceived .p 0x12 [] startPacket.check) full).plink.rx = List.replicate 4 startPacket) ∧
      (after (.byteReceived .p 0x12 true) inRun).plink.receiver = .hunting ∧
      (after (.byteReceived .p 0xC3 true) inRun).plink.receiver = .assembling [] ∧
      (after (.byteReceived .p 0x12 true) (part [])).plink.receiver = .assembling [0x12] ∧
      (after (.byteReceived .p 0x12 false) (part [])).counters.pBadPackets = 1 ∧
      (after (.byteReceived .p 49 true) (part [0x12])).counters.pBadPackets = 1 ∧
      (after (.linkGapTimeout .p) (part [])).counters.pBadPackets = 1 ∧
      (after (.transmissionComplete .p) (offers [offer])).session.offerSent = true ∧
      (after (.transmissionComplete .p) (offers [offer, offer])).session.offerSent = false ∧
      (after (.transmissionComplete .p) (offers [startPacket])).plink.tx = [] ∧
      State.reset.time.domain ≠ .run := by decide +kernel

/-- The bytes after the kind byte, at the borders of length and payload, and the check byte good and bad
(LinkPortsReceiveAndSend). -/
theorem test_bytes_of_a_packet :
    let part (bs : List Byte) : State := { inRun with plink := ⟨.assembling bs, .running 1, [], []⟩ }
    let next (b : Byte) (bs : List Byte) : Port := (after (.byteReceived .p b true) (part bs)).plink
    (next 48 [0x18]).receiver = .assembling [0x18, 48] ∧ (next 49 [0x18]).receiver = .hunting ∧
      (next 0xC3 [0x18, 1]).receiver = .assembling [0x18, 1, 0xC3] ∧ (next 7 [0x18, 1]).gap = .running 3 ∧
      ((after (.byteReceived .p (relayPacket [7]).check true) (part [0x18, 1, 7])).counters.outOfSession = 1 ∧
        (after (.byteReceived .p 0 true) (part [0x18, 1, 7])).counters.pBadPackets = 1) := by decide +kernel

/-- A head that waits for its places is served when a completion frees them, and then the packets behind it, until one
waits (LinkPortsReceiveAndSend, StepKeepsQueueAndPortsSound). -/
theorem test_completions_serve_the_queue :
    let filled (n : Nat) (rx : List Packet) : State := { awake with
      plink := { awake.plink with rx := rx, tx := List.replicate n startPacket } }
    let requests := filled 8 [startPacket, getPacket 2]
    let notices : State := { inRun with
      slink := { inRun.slink with rx := [helloPacket], tx := List.replicate 4 (dropPacket 1) } }
    commandOf .p startPacket = some .start ∧ MustWait .p .start requests ∧ ¬ MustWait .p .start (filled 7 [startPacket]) ∧
      requests.servePort .p = requests ∧ (filled 7 [startPacket, getPacket 2]).servePort .p =
        (after .start (filled 7 [startPacket, getPacket 2])).servePort .p ∧
      (after (.transmissionComplete .p) requests).plink.rx = [getPacket 2] ∧
      (after (.transmissionComplete .p) (filled 7 [startPacket, getPacket 2])).plink.rx = [] ∧
      MustWait .s .hello notices ∧ (after (.packetReceived .s 0x50 [] 0x0C) notices).slink.rx.length = 2 ∧
      (after (.transmissionComplete .s) notices).slink.rx = [] ∧
      (after (.transmissionComplete .s) notices).counters.strayNotice = 1 := by decide +kernel

/-- A waiting head satisfies the invariant, and the end of its session discards it (StepKeepsQueueAndPortsSound,
SessionEndEffects). -/
theorem test_heads_wait :
    let s : State := { awake with
      plink := { awake.plink with rx := [startPacket], tx := List.replicate 8 startPacket } }
    HeadsWait s ∧ ReceivedNamed s ∧ MainHeld s ∧ WellFormed (.transmissionComplete .p) = true ∧
      (after (.transmissionComplete .p) s).plink.rx = [] ∧ (s.endSession.plink.rx = [] ∧ s.endSession.counters.outOfSession = 1) := by
  refine ⟨?_, ?_, ⟨fun h => absurd h (by decide), fun h => absurd rfl h⟩, rfl, by decide +kernel, by decide +kernel⟩
  case refine_2 =>
    intro l
    cases l <;> decide +kernel
  intro _ l p rest c hrx hc
  cases l
  · obtain ⟨rfl, rfl⟩ : p = startPacket ∧ rest = [] := by simpa [State.port, eq_comm] using hrx
    obtain rfl : Instr.start = c := by simpa [show commandOf .p startPacket = some .start from by decide] using hc
    exact Or.inr (Or.inr ⟨rfl, by decide, by decide, by decide, by decide⟩)
  · have h : awake.slink.rx = p :: rest := hrx
    rw [show awake.slink.rx = [] from rfl] at h
    cases h

/-- A whole packet that meets an assembling receiver is taken as bytes of the packet begun, at whose end a new one may begin; a
sync byte without its stop bit starts nothing (LinkPortsReceiveAndSend). -/
theorem test_packet_meets_an_assembly :
    let part (bs : List Byte) : State := { inRun with slink := ⟨.assembling bs, .running 1, [], []⟩ }
    (after (.packetReceived .s 0x50 [] 0x0C) (part [])).slink.receiver = .hunting ∧
      (after (.packetReceived .s 0x50 [] 0x0C) (part [])).counters.sBadPackets = 1 ∧
      (after (.packetReceived .s 0x50 [] 0x0C) (part [0x50, 0])).counters.sBadPackets = 1 ∧
      (after (.packetReceived .s 0x50 [] 0x0C) (part [0x51, 4])).slink.receiver = .assembling [0x51, 4, 0xC3, 0x50, 0, 0x0C] ∧
      (after (.byteReceived .s 0xC3 false) inRun) = inRun ∧ (after (.transmissionComplete .s) inRun) = inRun := by
  decide +kernel

/-- A packet's bytes one by one leave what the whole packet leaves. -/
theorem test_bytes_make_a_packet :
    let byByte := [0xC3, 0x50, 0x00, 0x0C].foldl (fun s b => after (.byteReceived .s b true) s) inRun
    byByte = after (.packetReceived .s 0x50 [] 0x0C) inRun := by decide +kernel

end Sys2Proof.Tests
end

section
/-! PROOF. The ramp update (03 R47 to R52): which correction row applies, what each outcome of a report leaves, and the
program whose limits clamp the sum. -/

namespace Sys2Proof.Machine

/-! ### The current program (03 R39) -/

/-- No window, or no row at its index, names no program. -/
theorem currentProgram_eq_bind (s : State) :
    s.currentProgram =
      (s.sched.window.bind (fun i => s.store.window.active.rows[i]?)).bind
        (fun w => s.store.program.active.rows[w.program]?) := by
  unfold State.currentProgram State.currentWindow State.windows
  cases s.sched.window with
  | none => rfl
  | some i => cases h : s.store.window.active.rows[i]? <;> simp [h]

/-! ### The correction of a deviation (03 R40, R49, R50) -/

/-- The first row whose bound is at least the deviation gives the correction (R40). -/
theorem lookupCorrection_first {pre post : List CorrectionRow} {r : CorrectionRow} {d : Int}
    (below : ∀ q ∈ pre, q.bound < d) (reached : d ≤ r.bound) :
    lookupCorrection (pre ++ r :: post) d = r.correction := by
  have first : (pre ++ r :: post).find? (fun q => decide (d ≤ q.bound)) = some r := by
    have passed : pre.find? (fun q => decide (d ≤ q.bound)) = none :=
      List.find?_eq_none.mpr fun q hq => by simpa using below q hq
    simp [List.find?_append, passed, reached]
  simp [lookupCorrection, first]

/-- Dead band, clip guard and slew limit about the correction of the first row that the deviation reaches. -/
theorem appliedCorrection_of_row (p : ProgramRow) {pre post : List CorrectionRow} {r : CorrectionRow} (f : Facts)
    (below : ∀ q ∈ pre, q.bound < (f.mean.toNat : Int) - p.target)
    (reached : (f.mean.toNat : Int) - p.target ≤ r.bound) :
    appliedCorrection p (pre ++ r :: post) f =
      let c := if ((f.mean.toNat : Int) - p.target).natAbs ≤ p.deadBand then 0 else r.correction
      let guarded := if p.clipLimit ≤ f.clippedHigh.toNat then min c (-16) else c
      max (-(p.slew : Int)) (min guarded p.slew) := by
  rw [appliedCorrection, lookupCorrection_first below reached]

/-- Only mean and clipped-high enter the correction (R50). -/
theorem appliedCorrection_clippedLow (p : ProgramRow) (rows : List CorrectionRow) (f : Facts) (low : Byte) :
    appliedCorrection p rows { f with clippedLow := low } = appliedCorrection p rows f := rfl

/-! ### The outcomes of a report (03 R47, R48, R51, R52) -/

/-- A report of another generation is counted, and nothing else (R47). -/
theorem rampUpdate_stale {s : State} {r : ShotRecord} (f : Facts) (h : r.generation ≠ some s.ramp.generation) :
    s.rampUpdate r f = s.count .staleReport := if_pos h

/-- The program that clamps the sum: the reported one while STOPPED, the current one while RUNNING (R51). -/
theorem updateClampProgram_eq {s : State} {p q : ProgramRow}
    (h : s.sched.state = .stopped ∧ q = p ∨ s.sched.state = .running ∧ s.currentProgram = some q) :
    s.updateClampProgram p = q := by
  obtain ⟨stopped, rfl⟩ | ⟨running, current⟩ := h
  · simp [State.updateClampProgram, stopped]
  · simp [State.updateClampProgram, running, current]

section Present
variable {s : State} {r : ShotRecord} {x : Indices}

/-- Without the row that its record names, a report leaves the state (R48). -/
theorem rampUpdate_without_row (f : Facts) (present : r.generation = some s.ramp.generation)
    (indices : r.indices = some x) (noRow : s.store.program.active.rows[x.program]? = none) :
    s.rampUpdate r f = s := by
  simp [State.rampUpdate, present, indices, noRow]

/-- A report of the present generation corrects the ramp if its program is METERED, and else leaves the state (R48). -/
theorem rampUpdate_of_row {p : ProgramRow} (f : Facts) (present : r.generation = some s.ramp.generation)
    (indices : r.indices = some x) (row : s.store.program.active.rows[x.program]? = some p) :
    s.rampUpdate r f =
      if p.mode = .metered then s.applyCorrection p (appliedCorrection p s.store.correction.active.rows f) else s := by
  cases mode : p.mode <;> simp [State.rampUpdate, present, indices, row, mode]

end Present

/-- Settles O57: part by part from the lemma of each stage; the rows are searched in order, and the outcome of a report
turns on its generation, its program's row and mode, and the scheduler's state. -/
theorem rampUpdateStages : Obligations.RampUpdateStages := by
  unfold Obligations.RampUpdateStages
  refine ⟨?correction, appliedCorrection_clippedLow, fun _ _ f => rampUpdate_stale f, ?report, currentProgram_eq_bind⟩
  case correction =>
    rintro p rows pre post r f d rfl below reached
    exact appliedCorrection_of_row p f below reached
  case report =>
    intro s r f x present indices
    refine ⟨rampUpdate_without_row f present indices, fun p row unmetered => ?_, fun p q row metered clamp => ?_⟩
    · rw [rampUpdate_of_row f present indices row, if_neg unmetered]
    · rw [rampUpdate_of_row f present indices row, if_pos metered, State.applyCorrection, updateClampProgram_eq clamp]
      rfl

end Sys2Proof.Machine
end

section
/-! PROOF. The watch on the oldest ORDERED record and the expiry of its deadline (04 R72, R73). -/

namespace Sys2Proof.Machine

/-- Removing a tag keeps the records of every other tag, in their order (04 R61, R62). -/
theorem remove_eq_filter (q : ShotQueue) (tag : Byte) :
    q.remove tag = { q with records := q.records.filter (fun r => decide (r.tag ≠ tag)) } := by
  simp only [ShotQueue.remove, ne_eq, decide_not]

/-- The watch looks for its record in the order of the queue (04 R61, R72). -/
theorem watch_eq_find (q : ShotQueue) (allowance : Nat) :
    q.watch allowance = { q with
      deadline := match q.records.find? (fun r => decide (r.state = .ordered)) with
        | some r => Timer.start ((r.exposure.shutter + 999) / 1000 + allowance)
        | none => .idle } := rfl

/-- In RUN a due deadline takes the oldest ORDERED record, which is the watched one (log 23). -/
theorem exec_exposureDeadlineExpiry_due {s : State} {r : ShotRecord} (run : s.time.domain = .run)
    (due : s.queue.deadline.due = true) (watched : s.queue.oldest .ordered = some r) :
    exec .exposureDeadlineExpiry s = .next (s.deadlineExpired r) := by
  have unfolded : exec .exposureDeadlineExpiry s = execExposureDeadlineExpiry s := rfl
  rw [unfolded, execExposureDeadlineExpiry, if_pos ⟨run, due⟩, watched]

/-- Settles O30: the expiry takes the watched record, and the watch that starts afresh searches the records left. -/
theorem deadlineExpiryDropsTheWatched : Obligations.DeadlineExpiryDropsTheWatched := by
  unfold Obligations.DeadlineExpiryDropsTheWatched
  intro s r run due watched
  rw [exec_exposureDeadlineExpiry_due run due watched, State.deadlineExpired, remove_eq_filter, watch_eq_find]
  rfl

end Sys2Proof.Machine
end

section
/-! PROOF. MEASURE and its channel set (08 R152), RELAY and the case that answers it (04 R82). -/

namespace Sys2Proof.Machine

/-! ### MEASURE (08 R152) -/

/-- No channel, or one outside the three, is no channel set. -/
theorem channelSet_eq_none {b : Byte} (h : b = 0 ∨ 8 ≤ b.toNat) : channelSet b = none :=
  if_pos (h.imp_left fun zero => by rw [zero]; rfl)

/-- The low three bits name the channels. -/
theorem channelSet_eq_some {b : Byte} (nonzero : b ≠ 0) (known : b.toNat < 8) :
    channelSet b = some ⟨b.getLsbD 0, b.getLsbD 1, b.getLsbD 2⟩ := by
  have named : b.toNat ≠ 0 := fun h => nonzero (BitVec.eq_of_toNat_eq h)
  exact if_neg (by omega)

/-- MEASURE in session with its place reaches the Measurement Unit. -/
theorem exec_measure_served {channels : Byte} {s x : State} (h : Served (measurePacket channels) 1 s x) :
    exec (.measure channels) s = .next (x.serveMeasure channels) := by
  have unfolded : exec (.measure channels) s = execMeasure channels s := rfl
  rw [unfolded, execMeasure, takeRequest_served _ h]

/-- MEASURE without a channel set is answered BAD_VALUE, and nothing else. -/
theorem serveMeasure_of_none {channels : Byte} (s : State) (h : channelSet channels = none) :
    s.serveMeasure channels = answered 0x16 .badValue s := by
  rw [State.serveMeasure, h]
  rfl

/-- MEASURE is answered OK, its channels join the request set, and the arbiter tests in the same event (08 R148). -/
theorem serveMeasure_of_some {channels : Byte} (s : State) {r : Requests} (h : channelSet channels = some r) :
    s.serveMeasure channels = State.arbitrate { answered 0x16 .ok s with
      meas := { s.meas with requests := s.meas.requests.merge r } } := by
  rw [State.serveMeasure, h]
  rfl

/-! ### RELAY (04 R82) -/

/-- RELAY in session with its place reaches the Shot Queue. -/
theorem exec_relay_served {payload : List Byte} {s x : State} (h : Served (relayPacket payload) 1 s x) :
    exec (.relay payload) s = .next (x.serveRelay payload) := by
  have unfolded : exec (.relay payload) s = execRelay payload s := rfl
  rw [unfolded, execRelay, takeRequest_served _ h]

section Answer
variable {s : State}

/-- Before READY no relay is taken. -/
theorem relayAnswer_notReady (h : s.queue.module ≠ .ready) : s.relayAnswer = .notReady := if_pos h

/-- An exposure under way, or a relay in progress, makes a READY module busy. -/
theorem relayAnswer_busy (ready : s.queue.module = .ready)
    (h : s.queue.has .ordered = true ∨ s.queue.relay = .inProgress) : s.relayAnswer = .busy := by
  obtain ordered | relaying := h
  · simp [State.relayAnswer, ready, ordered]
  · simp [State.relayAnswer, ready, relaying]

/-- A READY module with no record ORDERED and no relay in progress takes one. -/
theorem relayAnswer_ok (ready : s.queue.module = .ready) (unordered : s.queue.has .ordered = false)
    (idle : s.queue.relay = .idle) : s.relayAnswer = .ok := by
  simp [State.relayAnswer, ready, unordered, idle]

end Answer

/-- A refused RELAY is answered, and nothing else. -/
theorem serveRelay_of_refused {s : State} {c : AnswerCode} (payload : List Byte) (answer : s.relayAnswer = c)
    (refused : c ≠ .ok) : s.serveRelay payload = answered 0x18 c s := by
  simp only [State.serveRelay, answer, if_neg refused]
  rfl

/-- A RELAY answered OK is passed to the module, and its reply limit starts (04 R81). -/
theorem serveRelay_of_ok {s : State} (payload : List Byte) (answer : s.relayAnswer = .ok) :
    s.serveRelay payload = State.settle .protection s { answered 0x18 .ok s with
      queue := { s.queue with relay := .inProgress, relayLimit := .running 1001 }
      slink := { s.slink with tx := s.slink.tx ++ [relayPacket payload] } } := by
  simp only [State.serveRelay, answer, if_true]
  rfl

/-- Settles O50: MEASURE turns on its channel set, RELAY on the first of its cases that holds. -/
theorem measureAndRelayRequests : Obligations.MeasureAndRelayRequests := by
  unfold Obligations.MeasureAndRelayRequests
  refine ⟨fun channels s x served => ?measure, fun payload s x served => ?relay⟩
  case measure =>
    rw [exec_measure_served served]
    refine ⟨fun bad => ?_, fun nonzero known => ?_⟩
    · rw [serveMeasure_of_none x (channelSet_eq_none bad)]
    · rw [serveMeasure_of_some x (channelSet_eq_some nonzero known)]
      rfl
  case relay =>
    rw [exec_relay_served served]
    refine ⟨fun notReady => ?_, fun ready busy => ?_, fun ready unordered idle => ?_⟩
    · rw [serveRelay_of_refused payload (relayAnswer_notReady notReady) (by decide)]
    · rw [serveRelay_of_refused payload (relayAnswer_busy ready busy) (by decide)]
    · rw [serveRelay_of_ok payload (relayAnswer_ok ready unordered idle)]

end Sys2Proof.Machine
end

section
/-! PROOF. The retention verdict (05 R88 to R93): what each test of a row asks, which row applies, and what each action
leaves of the decimation counters. -/

namespace Sys2Proof.Machine

/-! ### The four tests (05 R89 to R91) -/

/-- A known tier stands among the row's tiers; while UNSET the row must hold all four (R90). -/
theorem tierTest_iff {current : Tier} {tiers : List Tier} :
    tierTest current tiers = true ↔
      (current = .unset ∧ ∀ t ∈ [Tier.full, .normal, .lean, .critical], t ∈ tiers) ∨
        current ≠ .unset ∧ current ∈ tiers := by
  cases current with
  | unset => simp [tierTest, Tier.named]
  | full | normal | lean | critical => simp [tierTest]

/-- Without a reference CHANGED passes and UNCHANGED fails; with one, both compare the distance with delta (R91). -/
theorem changeTest_iff {row : RetentionRow} {mean : Nat} {last : Option Byte} :
    changeTest row mean last = true ↔
      row.change = .any ∨
        (row.change = .changed ∧ ∀ r, last = some r → row.delta ≤ ((mean : Int) - r.toNat).natAbs) ∨
        (row.change = .unchanged ∧ ∃ r, last = some r ∧ ((mean : Int) - r.toNat).natAbs < row.delta) := by
  cases change : row.change with
  | any => simp [changeTest, change]
  | changed => cases last <;> simp [changeTest, change]
  | unchanged => cases last <;> simp [changeTest, change]

/-- A row matches when all of its tests pass, the mean test with both ends included (R88, R89). -/
theorem rowMatches_iff {role : Role} {mean : Nat} {tier : Tier} {last : Option Byte} {row : RetentionRow} :
    rowMatches role mean tier last row = true ↔
      role ∈ row.roles ∧ row.meanLow ≤ mean ∧ mean ≤ row.meanHigh ∧
        tierTest tier row.tiers = true ∧ changeTest row mean last = true := by
  simp [rowMatches, and_assoc]

section Verdict
variable {s : State} {role : Role} {mean : Byte}

/-! ### The row that applies (05 R88) -/

/-- No row applies when none matches. -/
theorem applicableRow_eq_none
    (failed : ∀ row ∈ s.store.retention.active.rows,
      ¬ rowMatches role mean.toNat s.meas.tier s.retention.lastKeptCenter row = true) :
    s.applicableRow role mean = none := by
  have search : s.store.retention.active.rows.findIdx?
      (rowMatches role mean.toNat s.meas.tier s.retention.lastKeptCenter) = none :=
    List.findIdx?_eq_none_iff.mpr fun row mem => Bool.eq_false_iff.mpr (failed row mem)
  simp only [State.applicableRow, search]

/-- The row that applies is the first that matches. -/
theorem applicableRow_eq_some {i : Nat} {row : RetentionRow} (at_i : s.store.retention.active.rows[i]? = some row)
    (passed : rowMatches role mean.toNat s.meas.tier s.retention.lastKeptCenter row = true)
    (earlier : ∀ j q, j < i → s.store.retention.active.rows[j]? = some q →
      ¬ rowMatches role mean.toNat s.meas.tier s.retention.lastKeptCenter q = true) :
    s.applicableRow role mean = some (i, row) := by
  obtain ⟨inRange, value⟩ := List.getElem?_eq_some_iff.mp at_i
  have search : s.store.retention.active.rows.findIdx?
      (rowMatches role mean.toNat s.meas.tier s.retention.lastKeptCenter) = some i :=
    List.findIdx?_eq_some_iff_getElem.mpr
      ⟨inRange, value ▸ passed, fun j before =>
        earlier j _ before (List.getElem?_eq_getElem (before.trans inRange))⟩
  simp only [State.applicableRow, search, at_i, Option.map_some]

/-! ### What the row that applies decides (05 R92, R93) -/

/-- Without a row that applies the frame is kept and no counter moves (R88). -/
theorem verdict_of_no_row (none_applies : s.applicableRow role mean = none) :
    s.verdictKeeps role mean = true ∧ s.decimationAfter role mean = s.retention.decimation := by
  simp only [State.verdictKeeps, State.decimationAfter, none_applies, and_self]

variable {i : Nat} {row : RetentionRow}

/-- KEEP keeps, and moves no counter (R92). -/
theorem verdict_of_keep (applies : s.applicableRow role mean = some (i, row)) (action : row.action = .keep) :
    s.verdictKeeps role mean = true ∧ s.decimationAfter role mean = s.retention.decimation := by
  simp only [State.verdictKeeps, State.decimationAfter, applies, action, and_self]

/-- DROP drops, and moves no counter (R92). -/
theorem verdict_of_drop (applies : s.applicableRow role mean = some (i, row)) (action : row.action = .drop) :
    s.verdictKeeps role mean = false ∧ s.decimationAfter role mean = s.retention.decimation := by
  simp only [State.verdictKeeps, State.decimationAfter, applies, action, and_self]

/-- KEEP_EVERY hands its row's counter to `decimate` and sets that counter alone (R93). -/
theorem verdict_of_keepEvery (applies : s.applicableRow role mean = some (i, row))
    (action : row.action = .keepEvery) :
    s.verdictKeeps role mean = (decimate row.every (s.retention.decimation.getD i 0)).2 ∧
      s.decimationAfter role mean =
        s.retention.decimation.set i (decimate row.every (s.retention.decimation.getD i 0)).1 := by
  simp only [State.verdictKeeps, State.decimationAfter, applies, action, and_self]

end Verdict

/-- The N-th frame of a KEEP_EVERY row is kept, and its counter starts again (R93). -/
theorem decimate_nth {every counter : Nat} (nth : counter + 1 = every) : decimate every counter = (0, true) :=
  if_pos nth

/-- Before the N-th frame of a KEEP_EVERY row the counter rises and the frame is dropped (R93). -/
theorem decimate_before_nth {every counter : Nat} (before : counter + 1 ≠ every) :
    decimate every counter = (counter + 1, false) := if_neg before

/-- Settles O58: the model's search tests a row as the statement does, so it stops at the first row that passes; the
verdict is then that row's action, or KEEP without one. -/
theorem retentionVerdict : Obligations.RetentionVerdict := by
  unfold Obligations.RetentionVerdict
  intro passes s role mean hits rows
  have matches_iff (row : RetentionRow) :
      rowMatches role mean.toNat s.meas.tier s.retention.lastKeptCenter row = true ↔ hits row := by
    rw [rowMatches_iff, tierTest_iff, changeTest_iff]
  refine ⟨fun failed => ?_, fun i row at_i passed earlier => ?_⟩
  · exact verdict_of_no_row (applicableRow_eq_none fun row mem => (matches_iff row).not.mpr (failed row mem))
  · have applies : s.applicableRow role mean = some (i, row) :=
      applicableRow_eq_some at_i ((matches_iff row).mpr passed)
        fun j q before at_j => (matches_iff q).not.mpr (earlier j q before at_j)
    refine ⟨verdict_of_keep applies, verdict_of_drop applies, fun action nth => ?_, fun action before => ?_⟩
    · simpa only [decimate_nth nth] using verdict_of_keepEvery applies action
    · simpa only [decimate_before_nth before] using verdict_of_keepEvery applies action

end Sys2Proof.Machine
end

section
/-! PROOF. GET of each settings item (10 R183): the item a code names, its value as it is held, and the answer. -/

namespace Sys2Proof.Machine

/-! ### Item codes (10, section 10.2; 11 R195) -/

/-- The codes below 27 are the places in the list of the items. -/
theorem ofCode_of_lt {n : Byte} (h : n.toNat < 27) : ∃ i, Item.ofCode n = some i :=
  ⟨Item.all[n.toNat]'h, List.getElem?_eq_getElem h⟩

/-- A code of 27 or more lies past the list of the items. -/
theorem ofCode_eq_none {n : Byte} (h : 27 ≤ n.toNat) : Item.ofCode n = none := List.getElem?_eq_none h

/-! ### A value in range, as the settings hold it, stands for itself (10 R182, R183) -/

/-- A word is answered when its number is held. -/
theorem ofNat_of_held {v : Word32} {n : Nat} (held : n = v.toNat) : BitVec.ofNat 32 n = v := by
  rw [held, BitVec.ofNat_toNat, BitVec.setWidth_eq]

/-- A yes/no value is held as whether it is 1. -/
theorem toNat_decide_eq_one {n : Nat} (h : n ≤ 1) : (decide (n = 1)).toNat = n := by
  interval_cases n <;> rfl

/-- A mode in range keeps its code. -/
theorem code_modeOf {n : Nat} (h : n ≤ 2) : (modeOf n).code = n := by
  interval_cases n <;> rfl

/-- A sag mode in range keeps its code. -/
theorem code_sagMode {n : Nat} (h : n ≤ 1) : (if n = 1 then SagMode.latched else .cycle).code = n := by
  interval_cases n <;> rfl

/-- The bits of the members that a number names add up to the number, when the codes are the places in the list. -/
theorem foldl_namesOfBits {α : Type} {code : α → Nat} (names : List α) (k acc n : Nat)
    (places : names.map code = List.range' k names.length) (fits : n < 2 ^ names.length) :
    (namesOfBits names n).foldl (fun sum a => sum + 2 ^ code a) acc = acc + 2 ^ k * n := by
  induction names generalizing k acc n with
  | nil =>
    have zero : n = 0 := by simpa using fits
    simp [namesOfBits, zero]
  | cons a as ih =>
    obtain ⟨first, later⟩ : code a = k ∧ as.map code = List.range' (k + 1) as.length := by
      simpa [List.range'_succ] using places
    have half : n / 2 < 2 ^ as.length := by
      rw [List.length_cons, Nat.pow_succ] at fits
      omega
    by_cases bit : n % 2 = 1
    · have odd : 1 + 2 * (n / 2) = n := by omega
      rw [namesOfBits, if_pos bit, List.foldl_cons, ih _ _ _ later half, first]
      calc acc + 2 ^ k + 2 ^ (k + 1) * (n / 2) = acc + 2 ^ k * (1 + 2 * (n / 2)) := by ring
        _ = acc + 2 ^ k * n := by rw [odd]
    · have even : 2 * (n / 2) = n := by omega
      rw [namesOfBits, if_neg bit, ih _ _ _ later half]
      calc acc + 2 ^ (k + 1) * (n / 2) = acc + 2 ^ k * (2 * (n / 2)) := by ring
        _ = acc + 2 ^ k * n := by rw [even]

/-- A set of edges in range keeps its bits. -/
theorem bitsOf_edges {n : Nat} (h : n < 64) : bitsOf EdgeKind.code (namesOfBits EdgeKind.all n) = n := by
  rw [bitsOf, foldl_namesOfBits EdgeKind.all 0 0 n rfl h]
  omega

/-- GET of an item held in the settings answers the value last set (10 R183). -/
theorem itemValue_put {i : Item} {v : Word32} (s : State) (held : i ∉ [.clock, .dayOffset, .rampPosition])
    (range : i.inRange v = true) : ({ s with settings := s.settings.put i v } : State).itemValue i = v := by
  cases i with
  | clock | dayOffset | rampPosition => exact absurd held (by decide)
  | capacity | warmUp | keepWarm | bootLimit | exposureAllowance | faultLimit | deliveryTimeout | offerWindow
  | readyTimeout | awakeLimit | restSpan | refractory | blankLength | sagThreshold | measurePeriod | heaterPeriod =>
    exact ofNat_of_held rfl
  | triggerEnable | serviceEnable | sagEnable | autorun =>
    exact ofNat_of_held (toNat_decide_eq_one (of_decide_eq_true range))
  | captureMode | heaterMode => exact ofNat_of_held (code_modeOf (of_decide_eq_true range))
  | sagMode => exact ofNat_of_held (code_sagMode (of_decide_eq_true range))
  | blankEdges => exact ofNat_of_held (bitsOf_edges (of_decide_eq_true range))

/-! ### GET (10 R183) -/

/-- GET in session with its place reaches the Request Handler. -/
theorem exec_get_served {code : Byte} {s x : State} (h : Served (getPacket code) 1 s x) :
    exec (.get code) s = .next (x.serveGet code) := by
  have unfolded : exec (.get code) s = execGet code s := rfl
  rw [unfolded, execGet, takeRequest_served _ h]

/-- GET of a code without an item is answered BAD_ITEM, and nothing else. -/
theorem serveGet_of_none {code : Byte} (s : State) (h : Item.ofCode code = none) :
    s.serveGet code = answered 0x11 .badItem s := by
  rw [State.serveGet, h]
  rfl

/-- GET of an item is answered OK with the item's present value, and nothing else. -/
theorem serveGet_of_some {code : Byte} {i : Item} (s : State) (h : Item.ofCode code = some i) :
    s.serveGet code = s.sendP (answerPacket 0x11 .ok (some (s.itemValue i))) := by
  rw [State.serveGet, h]

/-- Settles O45: the answer turns on whether the code names an item, and the value of an item in the settings on the
form in which the item is held. -/
theorem getAnswersPresentValue : Obligations.GetAnswersPresentValue := by
  unfold Obligations.GetAnswersPresentValue
  refine ⟨fun code s x served => ?answer, fun n => ofCode_of_lt, fun n => ofCode_eq_none, rfl,
    fun s => ⟨rfl, rfl, rfl⟩, fun i v s => itemValue_put s, ?defaults⟩
  case answer =>
    rw [exec_get_served served]
    refine ⟨fun i named => ?_, fun unknown => ?_⟩
    · rw [serveGet_of_some x named]
      rfl
    · rw [serveGet_of_none x (ofCode_eq_none unknown)]
  case defaults => decide

end Sys2Proof.Machine
end

section
/-! PROOF. CLEAR of each group, commanded by name or by code (10 R185, 07 R133). -/

namespace Sys2Proof.Machine

/-- The command that a CLEAR packet names and CLEAR with the packet's code reach the Request Handler alike. -/
theorem exec_clear_served {c : Instr} {group : Byte} {s x : State} (names : c = clearCommand group ∨ c = .clear group)
    (h : Served (clearPacket group) 1 s x) : exec c s = .next (x.serveClear group) := by
  rw [← takeRequest_served (State.serveClear group) h]
  obtain rfl | rfl := names
  · rw [clearCommand]
    split
    case h_1 code => obtain rfl : group = 0 := BitVec.eq_of_toNat_eq code; rfl
    case h_2 code => obtain rfl : group = 1 := BitVec.eq_of_toNat_eq code; rfl
    case h_3 code => obtain rfl : group = 2 := BitVec.eq_of_toNat_eq code; rfl
    case h_4 => rfl
  · rfl

/-! ### The group that a code names (11 R195) -/

theorem serveClear_zero (s : State) : s.serveClear 0 = s.serveClearCounters := rfl
theorem serveClear_one (s : State) : s.serveClear 1 = s.serveClearFlags := rfl
theorem serveClear_two (s : State) : s.serveClear 2 = s.serveClearLatch := rfl

/-- CLEAR of a group past the three is answered BAD_VALUE, and nothing else. -/
theorem serveClear_unknown {group : Byte} (s : State) (h : 3 ≤ group.toNat) :
    s.serveClear group = answered 0x14 .badValue s := by
  unfold State.serveClear
  split
  case h_4 => rfl
  all_goals omega

/-- Settles O47: both commands of a group reach the same service, and the group's code selects what it clears. -/
theorem clearClearsItsGroup : Obligations.ClearClearsItsGroup := by
  unfold Obligations.ClearClearsItsGroup
  intro s x a
  refine ⟨fun c names served => ?counters, fun c names served => ?flags, fun c names served => ?latch,
    fun g unknown served => ?other⟩
  case counters => rw [exec_clear_served names served, serveClear_zero]; rfl
  case flags => rw [exec_clear_served names served, serveClear_one]; rfl
  case latch => rw [exec_clear_served names served, serveClear_two]; rfl
  case other => rw [exec_clear_served (.inr rfl) served, serveClear_unknown x unknown]

end Sys2Proof.Machine
end

section
/-! PROOF. The commands that packets carry, read once: the packet's hand-over, the condition under which it is taken, and
what is done in the state in which it meets its block (11 R193, 10 R180, 06 R117; log 4). -/

namespace Sys2Proof.Machine

/-- What the block of a packet command does when it takes the packet; a request is in session there. -/
def bodyOf : Instr → State → State
  | .hello => State.serveHello
  | .frame tag _ _ mean hi lo => State.serveFrame tag ⟨mean, hi, lo⟩
  | .delivered tag => State.serveDelivered tag
  | .undelivered tag => State.serveUndelivered tag
  | .fault code => State.serveFault code
  | .moduleRelay payload => State.serveModuleRelay payload
  | .ready => State.serveReady
  | .sleep => State.serveSleep
  | .claim tag => State.claim tag
  | .waive tag => State.waive tag
  | .setClock v => State.serveSet 0 v
  | .setDayOffset v => State.serveSet 1 v
  | .setCapacity v => State.serveSet 2 v
  | .setCaptureMode v => State.serveSet 16 v
  | .setHeaterMode v => State.serveSet 17 v
  | .setSagThreshold v => State.serveSet 20 v
  | .setSagEnable v => State.serveSet 21 v
  | .setRampPosition v => State.serveSet 26 v
  | .set item v => State.serveSet item v
  | .get item => State.serveGet item
  | .clearCounters => State.serveClearCounters
  | .clearFlags => State.serveClearFlags
  | .clearLatch => State.serveClearLatch
  | .clear group => State.serveClear group
  | .query => State.serveQuery
  | .start => State.serveStart
  | .stop => State.serveStop
  | .shoot rung => State.serveShoot (rung.map (·.toNat))
  | .measure channels => State.serveMeasure channels
  | .relay payload => State.serveRelay payload
  | .openTable table => State.serveOpen table
  | .row table number fields => State.serveRow table number fields
  | .close count check => State.serveClose count check
  | .commit tables point => State.serveCommit tables point
  | _ => id

/-- Whether a packet command of a link is taken in a state, or waits (11 R193, 10 R180). -/
def admits (l : Link) (c : Instr) (s : State) : Bool :=
  match l, c with
  | .s, _ => s.roomS
  | .p, .ready => s.readyCondition
  | .p, .sleep => true
  | .p, _ => !s.inSession || s.roomP (requestPlaces c)

/-- What a packet command that is taken does: requests outside a session are discarded (06 R117). -/
def taking (l : Link) (c : Instr) (s : State) : State :=
  match l, c with
  | .s, _ => bodyOf c s
  | .p, .ready => s.serveReady
  | .p, .sleep => s.serveSleep
  | .p, _ => if s.inSession then bodyOf c s else s.count .outOfSession

/-- Every packet command is the hand-over of its packet. -/
theorem exec_packet {c : Instr} {l : Link} {p : Packet} (carries : packetOf c = some (l, p)) (s : State) :
    exec c s = .next (s.handOver l p (admits l c) (taking l c)) := by
  cases c <;> cases carries <;> rfl

/-- The S-link has room with at most three packets in its line (11 R193). -/
theorem roomS_iff (s : State) : s.roomS = true ↔ s.slink.tx.length ≤ 3 := decide_eq_true_iff

/-- The P-link has eight places (10 R180, 11 R194). -/
theorem roomP_iff (n : Nat) (s : State) : s.roomP n = true ↔ s.plink.tx.length + n ≤ 8 := decide_eq_true_iff

/-- The condition of a hand-over is the negation of `MustWait`. -/
theorem admits_iff {l : Link} {c : Instr} {p : Packet} (carries : packetOf c = some (l, p)) (s : State) :
    admits l c s = true ↔ ¬ MustWait l c s := by
  cases l with
  | s =>
    have other : c ≠ .ready := by rintro rfl; cases carries
    simp [admits, MustWait, roomS_iff, other]
  | p =>
    by_cases ready : c = .ready
    · subst ready
      cases state : s.session.state <;>
        simp [admits, MustWait, State.readyCondition, roomP_iff, state]
    · by_cases sleep : c = .sleep
      · subst sleep
        simp [admits, MustWait]
      · have places : admits .p c s = (!s.inSession || s.roomP (requestPlaces c)) := by
          unfold admits
          split <;> simp_all
        cases inside : s.inSession <;>
          simp [places, MustWait, ready, sleep, inside, roomP_iff]

/-- A hand-over leaves the state, has the packet arrive, or takes it in the state in which it meets its block. -/
theorem handOver_cases (l : Link) (p : Packet) (ready : State → Bool) (serve : State → State) (s : State) :
    s.handOver l p ready serve = s ∨ (s.time.domain = .run ∧ s.handOver l p ready serve = s.arrive l p) ∨
      ∃ x, Handed l p s x ∧ ready s = true ∧ s.handOver l p ready serve = serve x := by
  by_cases run : s.time.domain = .run
  · cases rx : (s.port l).rx with
    | nil =>
      cases free : ready s with
      | true => exact .inr (.inr ⟨s, ⟨run, .inl ⟨rx, rfl⟩⟩, rfl, by simp [State.handOver, run, rx, free]⟩)
      | false => exact .inr (.inl ⟨run, by simp [State.handOver, run, rx, free]⟩)
    | cons q rest =>
      by_cases head : q = p
      · subst head
        cases free : ready s with
        | true => exact .inr (.inr ⟨_, ⟨run, .inr ⟨rest, rx, rfl⟩⟩, rfl, by simp [State.handOver, run, rx, free]⟩)
        | false => exact .inl (by simp [State.handOver, run, rx, free])
      · exact .inr (.inl ⟨run, by simp [State.handOver, run, rx, head]⟩)
  · exact .inl (handOver_held ready serve run)

/-- Leaving the receive queue changes nothing that the condition of a hand-over reads. -/
theorem admits_handed {l k : Link} {c : Instr} {p : Packet} {s x : State} (h : Handed k p s x) :
    admits l c x = admits l c s := by
  obtain ⟨_, ⟨_, rfl⟩ | ⟨rest, _, rfl⟩⟩ := h
  · rfl
  · cases k <;> rfl

/-- A packet command that is handed over and whose condition holds is taken. -/
theorem exec_handed {c : Instr} {l : Link} {p : Packet} {s x : State} (carries : packetOf c = some (l, p))
    (h : Handed l p s x) (free : admits l c s = true) : exec c s = .next (taking l c x) := by
  rw [exec_packet carries, handOver_handed _ _ h free]

/-- A module notice with room is taken by the Shot Queue. -/
theorem exec_noticed {c : Instr} {p : Packet} {s x : State} (carries : packetOf c = some (.s, p))
    (h : Noticed p s x) : exec c s = .next (bodyOf c x) :=
  exec_handed carries h.1 h.2

/-- In session a request other than READY and SLEEP does what its block does. -/
theorem taking_inSession {c : Instr} {x : State} (noReady : c ≠ .ready) (noSleep : c ≠ .sleep)
    (inside : x.inSession = true) : taking .p c x = bodyOf c x := by
  unfold taking
  split <;> simp_all

/-- Outside a session a request other than READY and SLEEP is counted, and nothing else (06 R117). -/
theorem taking_outOfSession {c : Instr} {x : State} (noReady : c ≠ .ready) (noSleep : c ≠ .sleep)
    (outside : x.inSession = false) : taking .p c x = x.count .outOfSession := by
  unfold taking
  split <;> simp_all

/-- A request in session with its places is taken by its block. -/
theorem exec_served {c : Instr} {p : Packet} {s x : State} (carries : packetOf c = some (.p, p))
    (noReady : c ≠ .ready) (noSleep : c ≠ .sleep) (h : Served p (requestPlaces c) s x) :
    exec c s = .next (bodyOf c x) := by
  obtain ⟨handed, inside, room⟩ := h
  have free : admits .p c s = true := by
    unfold admits
    split <;> simp_all
  have still : x.inSession = true := by rw [State.inSession, handed_session handed]; exact inside
  rw [exec_handed carries handed free, taking_inSession noReady noSleep still]

/-- The session state decides whether requests are served (06 R117). -/
theorem inSession_iff (s : State) : s.inSession = true ↔ s.session.state = .awake ∨ s.session.state = .closing := by
  simp [State.inSession]

end Sys2Proof.Machine
end

section
/-! PROOF. Packets and the commands they carry (11 R191, R195): the number fields of a packet read back, the command of a
packet, and the packet of a command. -/

namespace Sys2Proof.Machine

/-! ### Number fields (11 R191) -/

theorem bytesBE_two (n : Nat) : bytesBE 2 n = [BitVec.ofNat 8 (n / 256), BitVec.ofNat 8 n] := by
  simp [bytesBE, byteOf]

theorem bytesBE_three (n : Nat) :
    bytesBE 3 n = [BitVec.ofNat 8 (n / 65536), BitVec.ofNat 8 (n / 256), BitVec.ofNat 8 n] := by
  simp [bytesBE, byteOf]

theorem bytesBE_four (n : Nat) :
    bytesBE 4 n =
      [BitVec.ofNat 8 (n / 16777216), BitVec.ofNat 8 (n / 65536), BitVec.ofNat 8 (n / 256), BitVec.ofNat 8 n] := by
  simp [bytesBE, byteOf]

theorem natBE_two (a b : Byte) : natBE [a, b] = a.toNat * 256 + b.toNat := by
  simp [natBE]

theorem natBE_three (a b c : Byte) : natBE [a, b, c] = a.toNat * 65536 + b.toNat * 256 + c.toNat := by
  simp [natBE]; omega

theorem natBE_four (a b c d : Byte) :
    natBE [a, b, c, d] = a.toNat * 16777216 + b.toNat * 65536 + c.toNat * 256 + d.toNat := by
  simp [natBE]; omega

/-- The bytes of a 32-bit field spell it. -/
theorem word32Of_bytes (v : Word32) :
    word32Of (BitVec.ofNat 8 (v.toNat / 16777216)) (BitVec.ofNat 8 (v.toNat / 65536)) (BitVec.ofNat 8 (v.toNat / 256))
      (BitVec.ofNat 8 v.toNat) = v := by
  apply BitVec.eq_of_toNat_eq
  have bound := v.isLt
  rw [word32Of, natBE_four]
  simp only [BitVec.toNat_ofNat]
  omega

/-- The bytes of a 16-bit field spell it. -/
theorem word16Of_bytes (v : Word16) :
    word16Of (BitVec.ofNat 8 (v.toNat / 256)) (BitVec.ofNat 8 v.toNat) = v := by
  apply BitVec.eq_of_toNat_eq
  have bound := v.isLt
  rw [word16Of, natBE_two]
  simp only [BitVec.toNat_ofNat]
  omega

/-- The field that four bytes spell has those bytes. -/
theorem bytes_word32Of (a b c d : Byte) : word32Bytes (word32Of a b c d) = [a, b, c, d] := by
  have ha := a.isLt; have hb := b.isLt; have hc := c.isLt; have hd := d.isLt
  have value : (word32Of a b c d).toNat = a.toNat * 16777216 + b.toNat * 65536 + c.toNat * 256 + d.toNat := by
    rw [word32Of, natBE_four, BitVec.toNat_ofNat]
    omega
  rw [word32Bytes, bytesBE_four, value]
  simp only [List.cons.injEq, and_true]
  refine ⟨?_, ?_, ?_, ?_⟩ <;> (apply BitVec.eq_of_toNat_eq; simp only [BitVec.toNat_ofNat]; omega)

/-- The field that two bytes spell has those bytes. -/
theorem bytes_word16Of (a b : Byte) : word16Bytes (word16Of a b) = [a, b] := by
  have ha := a.isLt; have hb := b.isLt
  have value : (word16Of a b).toNat = a.toNat * 256 + b.toNat := by
    rw [word16Of, natBE_two, BitVec.toNat_ofNat]
    omega
  rw [word16Bytes, bytesBE_two, value]
  simp only [List.cons.injEq, and_true]
  refine ⟨?_, ?_⟩ <;> (apply BitVec.eq_of_toNat_eq; simp only [BitVec.toNat_ofNat]; omega)

/-! ### SET and CLEAR (spec/opcode_table.json) -/

/-- The codes of the items that have a command of their own, as numbers. -/
theorem mem_ownCommand (item : Byte) :
    item ∈ Item.ownCommand ↔ item.toNat ∈ [0, 1, 2, 16, 17, 20, 21, 26] := by
  simp [Item.ownCommand, BitVec.toNat_eq]

/-- An item without a command of its own is set by SET. -/
theorem setCommand_other {item : Byte} (v : Word32) (h : item ∉ Item.ownCommand) : setCommand item v = .set item v := by
  rw [mem_ownCommand] at h
  unfold setCommand
  split
  case h_9 => rfl
  all_goals
    rename_i code
    exact absurd (by rw [code]; decide) h

/-- A group past the three is cleared by CLEAR. -/
theorem clearCommand_other {group : Byte} (h : 3 ≤ group.toNat) : clearCommand group = .clear group := by
  unfold clearCommand
  split
  case h_4 => rfl
  all_goals omega

/-- The command of a SET packet is well formed and has that packet. -/
theorem packetOf_setCommand (item : Byte) (v : Word32) :
    packetOf (setCommand item v) = some (.p, setPacket item v) ∧ WellFormed (setCommand item v) = true := by
  by_cases own : item ∈ Item.ownCommand
  · simp only [Item.ownCommand, List.mem_cons, List.not_mem_nil, or_false] at own
    obtain rfl | rfl | rfl | rfl | rfl | rfl | rfl | rfl := own <;> exact ⟨rfl, rfl⟩
  · rw [setCommand_other v own]
    exact ⟨rfl, by simp [WellFormed, own]⟩

/-- The command of a CLEAR packet is well formed and has that packet. -/
theorem packetOf_clearCommand (group : Byte) :
    packetOf (clearCommand group) = some (.p, clearPacket group) ∧ WellFormed (clearCommand group) = true := by
  by_cases own : 3 ≤ group.toNat
  · rw [clearCommand_other own]
    exact ⟨rfl, decide_eq_true own⟩
  · have known : group = 0 ∨ group = 1 ∨ group = 2 := by bv_omega
    obtain rfl | rfl | rfl := known <;> exact ⟨rfl, rfl⟩

/-! ### From the command to its packet and back (11 R195) -/

/-- The port of a well-formed command accepts its packet. -/
theorem packetOf_accepted {c : Instr} {l : Link} {p : Packet} (formed : WellFormed c = true)
    (carries : packetOf c = some (l, p)) : p.accepted l = true := by
  cases c with
  | shoot rung => cases rung <;> cases carries <;> rfl
  | relay bs | moduleRelay bs =>
    cases carries
    exact formed
  | row t n fs =>
    cases carries
    simp [WellFormed] at formed
    simp [Packet.accepted, acceptsP, rowPacket]
    omega
  | _ => cases carries <;> rfl

/-- The packet of a well-formed command fits a packet's payload. -/
theorem packetOf_length {c : Instr} {l : Link} {p : Packet} (formed : WellFormed c = true)
    (carries : packetOf c = some (l, p)) : p.payload.length ≤ 48 := by
  cases c with
  | shoot rung => cases rung <;> cases carries <;> simp [shootPacket, word16Bytes, bytesBE]
  | relay bs | moduleRelay bs =>
    cases carries
    simp only [WellFormed, Bool.and_eq_true, decide_eq_true_eq] at formed
    exact formed.2
  | row t n fs =>
    cases carries
    simp [WellFormed] at formed
    simp [rowPacket]
    omega
  | _ =>
    cases carries <;>
      simp [readyPacket, sleepPacket, claimPacket, waivePacket, setPacket, getPacket, startPacket, stopPacket, clearPacket,
        measurePacket, queryPacket, openPacket, closePacket, commitPacket, helloPacket, framePacket, deliveredPacket,
        undeliveredPacket, faultPacket, word32Bytes, word16Bytes, bytesBE]

theorem commandOf_p {p : Packet} (accepted : p.accepted .p = true) : commandOf .p p = commandOfP p := if_pos accepted
theorem commandOf_s {p : Packet} (accepted : p.accepted .s = true) : commandOf .s p = commandOfS p := if_pos accepted

/-- A SET packet names the command of its item. -/
theorem commandOfP_setPacket (item : Byte) (v : Word32) : commandOfP (setPacket item v) = some (setCommand item v) := by
  rw [setPacket, word32Bytes, bytesBE_four]
  change some (setCommand item (word32Of _ _ _ _)) = _
  rw [word32Of_bytes]

/-- A CLEAR packet names the command of its group. -/
theorem commandOfP_clearPacket (group : Byte) : commandOfP (clearPacket group) = some (clearCommand group) := rfl

/-- A SHOOT packet names SHOOT with its rung position, if it has one. -/
theorem commandOfP_shootPacket (rung : Option Word16) : commandOfP (shootPacket rung) = some (.shoot rung) := by
  cases rung with
  | none => rfl
  | some r =>
    rw [shootPacket, word16Bytes, bytesBE_two]
    change some (Instr.shoot (some (word16Of _ _))) = _
    rw [word16Of_bytes]

/-- A CLOSE packet names CLOSE with its fields. -/
theorem commandOfP_closePacket (count : Byte) (check : Word16) :
    commandOfP (closePacket count check) = some (.close count check) := by
  rw [closePacket, word16Bytes, bytesBE_two]
  change some (Instr.close count (word16Of _ _)) = _
  rw [word16Of_bytes]

/-- A FRAME packet names FRAME with its fields. -/
theorem commandOfS_framePacket (tag : Byte) (shutter : Word32) (gain mean hi lo : Byte) :
    commandOfS (framePacket tag shutter gain mean hi lo) = some (.frame tag shutter gain mean hi lo) := by
  rw [framePacket, word32Bytes, bytesBE_four]
  change some (Instr.frame tag (word32Of _ _ _ _) gain mean hi lo) = _
  rw [word32Of_bytes]

/-- The packet of a well-formed command names it. -/
theorem commandOf_packetOf {c : Instr} {l : Link} {p : Packet} (formed : WellFormed c = true)
    (carries : packetOf c = some (l, p)) : commandOf l p = some c := by
  have accepted := packetOf_accepted formed carries
  cases c with
  | set item v =>
    cases carries
    have other : item ∉ Item.ownCommand := by simpa [WellFormed] using formed
    rw [commandOf_p accepted, commandOfP_setPacket, setCommand_other v other]
  | clear group =>
    cases carries
    rw [commandOf_p accepted, commandOfP_clearPacket, clearCommand_other (of_decide_eq_true formed)]
  | setClock v | setDayOffset v | setCapacity v | setCaptureMode v | setHeaterMode v | setSagThreshold v
  | setSagEnable v | setRampPosition v =>
    cases carries
    exact (commandOf_p accepted).trans (commandOfP_setPacket _ v)
  | frame tag shutter gain mean hi lo =>
    cases carries
    exact (commandOf_s accepted).trans (commandOfS_framePacket tag shutter gain mean hi lo)
  | shoot rung => cases carries; exact (commandOf_p accepted).trans (commandOfP_shootPacket rung)
  | close count check => cases carries; exact (commandOf_p accepted).trans (commandOfP_closePacket count check)
  | relay payload | row table number fields => cases carries; exact commandOf_p accepted
  | moduleRelay payload => cases carries; exact commandOf_s accepted
  | _ => cases carries <;> rfl

/-- A byte is the byte of its number. -/
theorem eq_of_code {kind : Byte} {n : Nat} (code : kind.toNat = n) : kind = BitVec.ofNat 8 n := by
  rw [← code, BitVec.ofNat_toNat, BitVec.setWidth_eq]

/-- The payloads that pass a test of length 0, 1, 2, 3 or 5. -/
theorem eq_of_length_zero {bs : List Byte} (h : (bs.length == 0) = true) : bs = [] :=
  List.length_eq_zero_iff.mp (eq_of_beq h)
theorem eq_of_length_one {bs : List Byte} (h : (bs.length == 1) = true) : ∃ a, bs = [a] :=
  List.length_eq_one_iff.mp (eq_of_beq h)
theorem eq_of_length_two {bs : List Byte} (h : (bs.length == 2) = true) : ∃ a b, bs = [a, b] :=
  List.length_eq_two.mp (eq_of_beq h)
theorem eq_of_length_three {bs : List Byte} (h : (bs.length == 3) = true) : ∃ a b c, bs = [a, b, c] :=
  List.length_eq_three.mp (eq_of_beq h)
theorem eq_of_length_five {bs : List Byte} (h : (bs.length == 5) = true) : ∃ i a b c d, bs = [i, a, b, c, d] := by
  obtain ⟨i, rest, rfl⟩ := List.exists_cons_of_length_pos (l := bs) (by have := eq_of_beq h; omega)
  obtain ⟨a, rest, rfl⟩ := List.exists_cons_of_length_pos (l := rest) (by have := eq_of_beq h; simp at this; omega)
  obtain ⟨b, c, d, rfl⟩ := eq_of_length_three (bs := rest) (by simpa using h)
  exact ⟨i, a, b, c, d, rfl⟩

/-- The payloads of a SHOOT that pass the port (log 14). -/
theorem eq_of_shootLengthOk {bs : List Byte} (h : shootLengthOk bs = true) : bs = [0] ∨ ∃ a b, bs = [1, a, b] := by
  unfold shootLengthOk at h
  split at h
  · exact .inl (by rw [eq_of_beq h])
  · exact .inr ⟨_, _, by rw [eq_of_beq h]⟩
  · cases h

/-- A packet from the recorder that names a command is that command's packet. -/
theorem packetOf_commandOfP {p : Packet} {c : Instr} (accepted : acceptsP p = true) (named : commandOfP p = some c) :
    packetOf c = some (.p, p) ∧ WellFormed c = true := by
  obtain ⟨kind, payload⟩ := p
  unfold acceptsP at accepted
  split at accepted
  case h_18 => cases accepted
  all_goals
    rename_i code
    obtain rfl : kind = _ := eq_of_code code
    simp only at accepted
  case h_1 | h_2 | h_7 | h_8 | h_12 => 
    obtain rfl := eq_of_length_zero accepted
    cases named
    exact ⟨rfl, rfl⟩
  case h_3 | h_4 | h_6 | h_11 | h_14 =>
    obtain ⟨a, rfl⟩ := eq_of_length_one accepted
    cases named
    exact ⟨rfl, rfl⟩
  case h_5 =>
    obtain ⟨i, a, b, c, d, rfl⟩ := eq_of_length_five accepted
    cases named
    simpa [setPacket, bytes_word32Of] using packetOf_setCommand i (word32Of a b c d)
  case h_9 =>
    obtain ⟨g, rfl⟩ := eq_of_length_one accepted
    cases named
    exact packetOf_clearCommand g
  case h_10 =>
    obtain rfl | ⟨a, b, rfl⟩ := eq_of_shootLengthOk accepted <;> cases named
    · exact ⟨rfl, rfl⟩
    · simp [packetOf, shootPacket, bytes_word16Of, WellFormed]
  case h_13 =>
    cases named
    exact ⟨rfl, accepted⟩
  case h_15 =>
    obtain ⟨t, n, fields, rfl⟩ : ∃ t n fields, payload = t :: n :: fields := by
      match payload, accepted with
      | t :: n :: fields, _ => exact ⟨t, n, fields, rfl⟩
    cases named
    refine ⟨rfl, ?_⟩
    simp at accepted
    simp [WellFormed]
    omega
  case h_16 =>
    obtain ⟨n, a, b, rfl⟩ := eq_of_length_three accepted
    cases named
    simp [packetOf, closePacket, bytes_word16Of, WellFormed]
  case h_17 =>
    obtain ⟨a, b, rfl⟩ := eq_of_length_two accepted
    cases named
    exact ⟨rfl, rfl⟩

/-- A packet from the capture module that names a command is that command's packet. -/
theorem packetOf_commandOfS {p : Packet} {c : Instr} (accepted : acceptsS p = true) (named : commandOfS p = some c) :
    packetOf c = some (.s, p) ∧ WellFormed c = true := by
  obtain ⟨kind, payload⟩ := p
  unfold commandOfS at named
  split at named
  case h_1 code =>
    obtain rfl : kind = _ := eq_of_code code
    cases named
    exact ⟨rfl, accepted⟩
  case h_7 => cases named
  all_goals
    rename_i code fields
    obtain rfl : kind = _ := eq_of_code code
    obtain rfl : payload = _ := fields
    cases named
  case h_3 => simp [packetOf, framePacket, bytes_word32Of, WellFormed]
  all_goals exact ⟨rfl, rfl⟩

/-- A packet that names a command is that command's packet, and the command is well formed. -/
theorem packetOf_commandOf {l : Link} {p : Packet} {c : Instr} (named : commandOf l p = some c) :
    packetOf c = some (l, p) ∧ WellFormed c = true := by
  unfold commandOf at named
  split at named
  · rename_i accepted
    cases l with
    | p => exact packetOf_commandOfP accepted named
    | s => exact packetOf_commandOfS accepted named
  · cases named

/-- Settles O59: each way from the lemma of its direction, the layouts from the bytes of the number fields. -/
theorem packetsAndCommandsAgree : Obligations.PacketsAndCommandsAgree := by
  unfold Obligations.PacketsAndCommandsAgree
  refine ⟨fun c l p formed carries => ?_, fun l p c => packetOf_commandOf, ?layouts⟩
  · exact ⟨packetOf_accepted formed carries, packetOf_length formed carries, commandOf_packetOf formed carries, rfl⟩
  case layouts =>
    have two (n : Nat) := bytesBE_two n
    have four (n : Nat) := bytesBE_four n
    simp [packetOf, readyPacket, sleepPacket, claimPacket, waivePacket, setPacket, getPacket, startPacket, stopPacket,
      clearPacket, shootPacket, measurePacket, queryPacket, relayPacket, openPacket, rowPacket, closePacket,
      commitPacket, helloPacket, framePacket, deliveredPacket, undeliveredPacket, faultPacket, word32Bytes, word16Bytes,
      two, four]

end Sys2Proof.Machine
end

section
/-! PROOF. Shot numbers and the issue of shots (02 R30, 03 R41 to R46, 04 R59, R61, R70): the next number whose tag is
free, the numbers of an issue, its records, and the shots that each kind of shot asks for. -/

namespace Sys2Proof.Machine

/-! ### The next number whose tag is free (02 R30) -/

/-- The search passes over numbers whose tags are in use, and stops at a free one unless it runs out of steps. -/
theorem skipTags_spec (used : List Byte) (fuel : Nat) (n : Word32) :
    ∃ k ≤ fuel, skipTags used fuel n = n + BitVec.ofNat 32 k ∧
      (∀ m < k, (n + BitVec.ofNat 32 m).setWidth 8 ∈ used) ∧
      (k < fuel → (n + BitVec.ofNat 32 k).setWidth 8 ∉ used) := by
  induction fuel generalizing n with
  | zero => exact ⟨0, le_rfl, (BitVec.add_zero n).symm, by simp, by simp⟩
  | succ fuel ih =>
    by_cases taken : n.setWidth 8 ∈ used
    · obtain ⟨k, bound, value, passed, free⟩ := ih (n + 1)
      have shift (m : Nat) : n + BitVec.ofNat 32 (m + 1) = n + 1 + BitVec.ofNat 32 m := by
        rw [Nat.add_comm, BitVec.ofNat_add, BitVec.add_assoc]
        rfl
      refine ⟨k + 1, by omega, by rw [skipTags, if_pos (by simpa using taken), value, shift], fun m before => ?_, fun more => ?_⟩
      · cases m with
        | zero => simpa using taken
        | succ m => rw [shift]; exact passed m (by omega)
      · rw [shift]; exact free (by omega)
    · exact ⟨0, by omega, by simp [skipTags, taken], by simp, fun _ => by simpa using taken⟩

/-- Fewer than 256 numbers in a row have tags of their own. -/
theorem tags_in_a_row_nodup (n : Word32) {k : Nat} (few : k ≤ 256) :
    ((List.range k).map fun m => (n + BitVec.ofNat 32 m).setWidth 8).Nodup := by
  refine List.Nodup.map_on (fun a ha b hb same => ?_) List.nodup_range
  rw [List.mem_range] at ha hb
  have equal := congrArg BitVec.toNat same
  simp only [BitVec.toNat_setWidth, BitVec.toNat_add, BitVec.toNat_ofNat] at equal
  omega

/-- With a step for each tag in use, and a tag to spare, the search finds a free tag. -/
theorem skipTags_free {used : List Byte} (few : used.length < 256) (n : Word32) :
    ∃ k ≤ used.length, skipTags used used.length n = n + BitVec.ofNat 32 k ∧
      (n + BitVec.ofNat 32 k).setWidth 8 ∉ used ∧ ∀ m < k, (n + BitVec.ofNat 32 m).setWidth 8 ∈ used := by
  obtain ⟨k, bound, value, passed, free⟩ := skipTags_spec used used.length n
  refine ⟨k, bound, value, fun taken => ?_, passed⟩
  obtain rfl : k = used.length := by
    by_contra short
    exact free (by omega) taken
  have inside : (List.range (used.length + 1)).map (fun m => (n + BitVec.ofNat 32 m).setWidth 8) ⊆ used := by
    intro b hb
    obtain ⟨m, hm, rfl⟩ := List.mem_map.mp hb
    obtain before | rfl : m < used.length ∨ m = used.length := by rw [List.mem_range] at hm; omega
    · exact passed m before
    · exact taken
  have crowded := ((tags_in_a_row_nodup n (by omega)).subperm inside).length_le
  simp at crowded

/-! ### The numbers of an issue (02 R30) -/

theorem giveNumbers_length (used : List Byte) (k : Nat) (n : Word32) : (giveNumbers used k n).length = k := by
  induction k generalizing used n with
  | zero => rfl
  | succ k ih => simp [giveNumbers, ih]

/-- Each number given is the next one, counted from the number before it, whose tag is free. -/
theorem giveNumbers_next {used : List Byte} {k : Nat} {n : Word32} (few : used.length + k ≤ 256) {pre post : List Word32}
    {m : Word32} (split : giveNumbers used k n = pre ++ m :: post) :
    ∃ j, j < used.length + k ∧ m = (pre.getLast?.map (· + 1)).getD n + BitVec.ofNat 32 j ∧
      (m.setWidth 8 ∉ used ∧ m.setWidth 8 ∉ pre.map (·.setWidth 8)) ∧
      ∀ i < j, ((pre.getLast?.map (· + 1)).getD n + BitVec.ofNat 32 i).setWidth 8 ∈ used ∨
        ((pre.getLast?.map (· + 1)).getD n + BitVec.ofNat 32 i).setWidth 8 ∈ pre.map (·.setWidth 8) := by
  induction k generalizing used n pre with
  | zero => simp [giveNumbers] at split
  | succ k ih =>
    obtain ⟨j, bound, value, free, passed⟩ := skipTags_free (used := used) (by omega) n
    rw [giveNumbers] at split
    cases pre with
    | nil =>
      obtain ⟨rfl, -⟩ : _ = m ∧ _ := by simpa using split
      refine ⟨j, by omega, by simpa using value, ⟨value ▸ free, by simp⟩, fun i before => .inl ?_⟩
      simpa using passed i before
    | cons first pre =>
      obtain ⟨rfl, rest⟩ := List.cons.inj split
      clear bound value free passed
      obtain ⟨j, bound, value, free, passed⟩ := ih (by simp; omega) rest
      have start (f : Word32) : ((f :: pre).getLast?.map (· + 1)).getD n = (pre.getLast?.map (· + 1)).getD (f + 1) := by
        rw [List.getLast?_cons]
        cases pre.getLast? <;> rfl
      simp only [List.length_cons, List.mem_cons, not_or] at bound free passed
      refine ⟨j, by omega, by rw [start]; exact value, ⟨free.1.2, ?_⟩, fun i before => ?_⟩
      · simpa using ⟨free.1.1, by simpa using free.2⟩
      · rw [start]
        rcases passed i before with (same | inUse) | earlier
        · exact .inr (by rw [same]; exact List.mem_cons_self)
        · exact .inl inUse
        · exact .inr (by simp only [List.map_cons, List.mem_cons]; exact .inr earlier)

/-- The tags of the numbers given differ from each other and from those in use. -/
theorem giveNumbers_tags_nodup {used : List Byte} {k : Nat} {n : Word32} (few : used.length + k ≤ 256) (distinct : used.Nodup) :
    (used ++ (giveNumbers used k n).map (·.setWidth 8)).Nodup := by
  induction k generalizing used n with
  | zero => simpa [giveNumbers] using distinct
  | succ k ih =>
    obtain ⟨j, bound, value, free, passed⟩ := skipTags_free (used := used) (by omega) n
    rw [← value] at free
    rw [giveNumbers, List.map_cons, List.nodup_middle]
    exact ih (by simp; omega) (List.nodup_cons.mpr ⟨free, distinct⟩)

theorem counterAfter_eq (numbers : List Word32) (n : Word32) :
    counterAfter numbers n = (numbers.getLast?.map (· + 1)).getD n := by
  unfold counterAfter
  cases numbers.getLast? <;> rfl

/-! ### The records of an issue (04 R59, R70) -/

section Issue
variable (s : State) (specs : List ShotSpec)

theorem issueNumbers_length : (s.issueNumbers specs).length = specs.length := giveNumbers_length _ _ _

theorem issueRecords_length : (s.issueRecords specs).length = specs.length := by
  simp [State.issueRecords, issueNumbers_length]

/-- The records of an issue carry the numbers given, in member order. -/
theorem issueRecords_number : (s.issueRecords specs).map (·.number) = s.issueNumbers specs := by
  rw [State.issueRecords, List.map_zipWith]
  refine List.ext_getElem (by simp [issueNumbers_length]) fun i _ _ => ?_
  simp [State.newRecord]

/-- What a record takes from its shot alone stands as the shots stand. -/
theorem issueRecords_map {α : Type} (f : ShotRecord → α) (g : ShotSpec → α)
    (of_shot : ∀ sp n, f (s.newRecord sp n) = g sp) : (s.issueRecords specs).map f = specs.map g := by
  rw [State.issueRecords, List.map_zipWith]
  refine List.ext_getElem (by simp [issueNumbers_length]) fun i _ _ => ?_
  simp [of_shot]

/-- Every record of an issue is new. -/
theorem mem_issueRecords {r : ShotRecord} (h : r ∈ s.issueRecords specs) : ∃ sp n, r = s.newRecord sp n := by
  obtain ⟨i, bound, rfl⟩ := List.mem_iff_getElem.mp h
  exact ⟨_, _, by simp [State.issueRecords]; rfl⟩

/-- The tags of an issue's records differ from each other and from those in the queue. -/
theorem issueRecords_tags_nodup (distinct : (s.queue.records.map (·.tag)).Nodup)
    (few : s.queue.records.length + specs.length ≤ 256) :
    ((s.queue.records ++ s.issueRecords specs).map (·.tag)).Nodup := by
  have tags : (s.issueRecords specs).map (·.tag) = (s.issueNumbers specs).map (·.setWidth 8) := by
    rw [← issueRecords_number, List.map_map]; rfl
  rw [List.map_append, tags]
  exact giveNumbers_tags_nodup (by simpa using few) distinct

theorem issue_records : (s.issue specs).queue.records = s.queue.records ++ s.issueRecords specs := by
  unfold State.issue
  cases s.queue.has .ordered <;> rfl

theorem issue_module : (s.issue specs).queue.module = s.queue.module := by
  unfold State.issue
  cases s.queue.has .ordered <;> rfl

theorem issue_failures : (s.issue specs).queue.failures = s.queue.failures := by
  unfold State.issue
  cases s.queue.has .ordered <;> rfl

theorem issue_slink : (s.issue specs).slink =
    { s.slink with tx := s.slink.tx ++ (s.issueRecords specs).map fun r => exposePacket r.tag r.exposure r.role } := rfl

theorem issue_sched : (s.issue specs).sched =
    { s.sched with nextNumber := counterAfter (s.issueNumbers specs) s.sched.nextNumber } := rfl

end Issue

/-- The queue's oldest ORDERED record after an issue, when none was ORDERED: the issue's first. -/
theorem issue_deadline_unordered {s : State} {specs : List ShotSpec} {r : ShotRecord} {rest : List ShotRecord}
    (unordered : s.queue.has .ordered = false) (first : s.issueRecords specs = r :: rest) :
    (s.issue specs).queue.deadline = Timer.start (deadlineMs s.settings.exposureAllowance r) := by
  have ordered : r.state = .ordered := by
    obtain ⟨sp, n, rfl⟩ := mem_issueRecords s specs (first ▸ List.mem_cons_self)
    rfl
  have others : s.queue.records.find? (fun q => decide (q.state = .ordered)) = none := by
    rw [List.find?_eq_none]
    exact List.any_eq_false.mp unordered
  simp [State.issue, unordered, ShotQueue.watch, ShotQueue.oldest, first, others, ordered]

theorem issue_deadline_ordered {s : State} (specs : List ShotSpec) (ordered : s.queue.has .ordered = true) :
    (s.issue specs).queue.deadline = s.queue.deadline := by
  simp [State.issue, ordered]

/-- The number of a record among those of an issue, from the numbers before it. -/
theorem issueRecords_next {s : State} {specs : List ShotSpec} (few : s.queue.records.length + specs.length ≤ 8)
    {pre post : List ShotRecord} {r : ShotRecord} (split : s.issueRecords specs = pre ++ r :: post) :
    let start := (pre.getLast?.map (fun q : ShotRecord => q.number + 1)).getD s.sched.nextNumber
    let used := (s.queue.records ++ pre).map (·.tag)
    ∃ k : Nat, k ≤ 7 ∧ r.number = start + BitVec.ofNat 32 k ∧ r.number.setWidth 8 ∉ used ∧
      ∀ m < k, (start + BitVec.ofNat 32 m).setWidth 8 ∈ used := by
  intro start used
  have numbers : s.issueNumbers specs = pre.map (·.number) ++ r.number :: post.map (·.number) := by
    rw [← issueRecords_number, split, List.map_append, List.map_cons]
  obtain ⟨k, bound, value, free, passed⟩ := giveNumbers_next (by simp; omega) numbers
  have same : ((pre.map (·.number)).getLast?.map (· + 1)).getD s.sched.nextNumber = start := by
    rw [List.getLast?_map, Option.map_map]; rfl
  have tags : used = s.queue.records.map (·.tag) ++ (pre.map (·.number)).map (·.setWidth 8) := by
    rw [List.map_map]; exact List.map_append
  rw [same] at value passed
  refine ⟨k, by simp at bound; omega, value, ?_, fun m before => ?_⟩
  · rw [tags, List.mem_append, not_or]; exact free
  · rw [tags, List.mem_append]; exact passed m before

/-! ### The shots of a kind (03 R41 to R46) -/

/-- A position is clamped to the ladder from above only, since none lies below 0. -/
theorem clampToLadder_nat (ladder : List Rung) (q : Nat) : clampToLadder ladder (q : Int) = min q ((ladder.length - 1) * 16) := by
  unfold clampToLadder; omega

/-- The clamp to a program never leaves the numbers. -/
theorem clampToProgram_cast (p : ProgramRow) (q : Int) :
    ((clampToProgram p q : Nat) : Int) = max ((p.floor : Int) * 16) (min q ((p.ceiling : Int) * 16)) := by
  unfold clampToProgram; omega

theorem currentWindow_of_row {s : State} {i : Nat} {w : WindowRow} (at_i : s.sched.window = some i)
    (row : s.store.window.active.rows[i]? = some w) : s.currentWindow = some w := by
  simp [State.currentWindow, State.windows, at_i, row]

theorem currentProgram_of_row {s : State} {i : Nat} {w : WindowRow} {p : ProgramRow} (at_i : s.sched.window = some i)
    (row : s.store.window.active.rows[i]? = some w) (program : s.store.program.active.rows[w.program]? = some p) :
    s.currentProgram = some p := by
  rw [currentProgram_eq_bind, at_i, Option.bind_some, row, Option.bind_some, program]

/-- The length of a window: to the next row's start, or past midnight to the first row's (02 R15). -/
theorem windowLength_of_row {rows : List WindowRow} {i : Nat} {w : WindowRow} (row : rows[i]? = some w) :
    windowLength rows i = (rows[i + 1]?.map (fun next => next.start - w.start)).getD
      (86400 - w.start + (rows.head?.map (·.start)).getD 0) := by
  unfold windowLength
  rw [row]
  cases rows[i + 1]? <;> rfl

/-- The CENTER position of the current window's program: by its mode, clamped to the program (03 R41, R42). -/
theorem centerPosition_cast {s : State} {i : Nat} {w : WindowRow} (p : ProgramRow) (at_i : s.sched.window = some i)
    (row : s.store.window.active.rows[i]? = some w) :
    let into : Nat := (s.time.secondOfDay + 86400 - w.start) % 86400
    let last : Nat := 86400 - w.start + (s.store.window.active.rows.head?.map (·.start)).getD 0
    let length : Nat := (s.store.window.active.rows[i + 1]?.map (fun next => next.start - w.start)).getD last
    let free : Int := match p.mode with
      | .fixed => (p.fixedRung : Int) * 16
      | .timed => (p.timedStart : Int) * 16 + Int.tdiv (((p.timedEnd : Int) - p.timedStart) * 16 * into) length
      | .metered => s.ramp.position
    ((s.centerPosition p : Nat) : Int) = max ((p.floor : Int) * 16) (min free ((p.ceiling : Int) * 16)) := by
  intro into last length free
  rw [State.centerPosition, programPosition, clampToProgram_cast, currentWindow_of_row at_i row, at_i]
  simp only [Option.getD_some, Option.map_some, State.windows]
  rw [windowLength_of_row row]
  simp only [free]
  cases p.mode <;> rfl

/-- The shots of a bracket: the CENTER at offset 0 and a MEMBER at each other offset, in member order (03 R44). -/
theorem bracketSpecs_of_program {s : State} {p : ProgramRow} (program : s.currentProgram = some p) :
    s.bracketSpecs = (memberOffsets p.bracketCount).map (fun o =>
      if o = 0 then ⟨.center, some 0, s.centerPosition p, some s.ramp.generation⟩
      else ⟨.member, some o, memberPosition s.ladder p (s.centerPosition p) o, none⟩) := by
  rw [State.bracketSpecs, program]

/-- Settles O20: the issue from the numbers given and the records made of them, the shots of each kind from the current
window's row and program. -/
theorem issueCreatesOrderedRecords : Obligations.IssueCreatesOrderedRecords := by
  unfold Obligations.IssueCreatesOrderedRecords
  refine ⟨fun specs s distinct few => ?issue, fun s i w p fell at_i row program => ?program, fun s fell rung => ?manual,
    fun s => ⟨fun i w running at_i row => ?running, fun stopped => ?stopped⟩⟩
  case issue =>
    refine ⟨s.issueRecords specs, issue_records s specs, issueRecords_length s specs,
      issueRecords_map s specs _ _ fun _ _ => rfl, issueRecords_map s specs _ _ fun _ _ => rfl,
      issueRecords_map s specs _ _ fun _ _ => rfl, issueRecords_map s specs _ _ fun _ _ => rfl,
      issueRecords_tags_nodup s specs distinct (by omega), fun r mem => ?_, rfl, issue_deadline_ordered specs,
      fun r rest unordered first => issue_deadline_unordered unordered first, fun pre r post => issueRecords_next few,
      ?_, rfl, rfl, rfl⟩
    · obtain ⟨sp, n, rfl⟩ := mem_issueRecords s specs mem
      exact ⟨rfl, rfl, rfl, rfl, rfl, rfl, rfl⟩
    · rw [issue_sched, counterAfter_eq, ← issueRecords_number, List.getLast?_map, Option.map_map]
      rfl
  case program =>
    intro into last length free center member first
    have center_eq : ((s.centerPosition p : Nat) : Int) = center := centerPosition_cast p at_i row
    have center_nat : s.centerPosition p = center.toNat := by rw [← center_eq]; rfl
    have member_eq (o : Int) :
        (⟨.member, some o, memberPosition s.ladder p (s.centerPosition p) o, none⟩ : ShotSpec) = member o := by
      simp only [memberPosition, center_eq, clampToLadder, member]
      rfl
    have scheduled : s.specsOf ⟨.scheduled, fell, none⟩ = s.bracketSpecs := rfl
    rw [scheduled, bracketSpecs_of_program (currentProgram_of_row at_i row program)]
    refine ⟨fun one => ?_, fun three => ?_, fun five => ?_, ?_⟩
    · simp [one, memberOffsets, first, center_nat]
    · simp [three, memberOffsets, first, ← member_eq, center_nat]
    · simp [five, memberOffsets, first, ← member_eq, center_nat]
    · simp [State.specsOf, State.eventSpecs, currentProgram_of_row at_i row program, center_nat]
  case manual =>
    cases rung with
    | none => rfl
    | some r => simp [State.specsOf, State.manualSpecs, clampToLadder_nat, State.ladder]
  case running => simp [State.currentIndices, running, at_i, currentWindow_of_row at_i row]
  case stopped => simp [State.currentIndices, stopped]

end Sys2Proof.Machine
end

section
/-! PROOF. What every command keeps, reduced to elementary changes. `Kept P` says that a property survives each elementary
change that the model's operations make of a state, and `KeptBySupply P` that it survives the changes of the supply-domain
state too. `Kept.taking` and `KeptBySupply.event` derive from this, once, that it survives what is done with a packet and
every event outside the link ports. -/

namespace Sys2Proof.Machine

/-! ### Elementary changes -/

/-- The moves of the session state within a session and at its begin (06 R107, R110, R119); its end is `leaveSession`. -/
def SessionMoves (a b : SessionState) : Prop :=
  b = a ∨ (a = .off ∧ b = .waking) ∨ (a = .waking ∧ b = .awake) ∨ (a = .awake ∧ b = .closing)

/-- A session end before its evaluation of wake demand (06 R122). -/
def State.leaveSession (s : State) : State :=
  { s.countMany .outOfSession s.plink.rx.length with
    store := s.store.abandon
    plink := { s.plink with rx := [], tx := [] }
    session :=
      { s.session with
        state := .off
        readyTimer := .idle, awakeTimer := .idle, offerTimer := .idle, offerSent := false, timeouts := 0
        restTimer := Timer.startSeconds s.settings.restSpan } }

theorem endSession_eq (s : State) : s.endSession = s.leaveSession.evaluateWake := rfl

/-- The tables may be exchanged: they are those of the pending commit, or of a COMMIT that has passed its tests (09 R173). -/
def Exchangeable (tables : List Table) (s : State) : Prop :=
  (∃ point, s.store.commit = some ⟨tables, point⟩) ∨
    (s.time.domain = .run ∧ s.store.load = none ∧ s.store.commit = none ∧ ∀ t ∈ tables, s.store.stagedValid t = true)

/-- A property that every elementary change of the state keeps. Changes of queue and Table Store come with the proof that
they keep these sound, and most changes are made in RUN only. -/
structure Kept (P : State → Prop) : Prop where
  quiet : ∀ (s : State) counters flags inputs ramp retention pins, P s →
    P { s with counters := counters, flags := flags, inputs := inputs, ramp := ramp, retention := retention, pins := pins }
  sched : ∀ (s : State) x, (x.slot = none ∨ x.slot = s.sched.slot ∨ s.time.domain = .run) → P s → P { s with sched := x }
  time : ∀ (s : State) x, x.domain = s.time.domain → (x.phase < 1000 ∨ x.phase = s.time.phase) → P s →
    P { s with time := x }
  wakes : ∀ (s : State) n, P s → P { s with session := { s.session with wakesToday := n } }
  age : ∀ (s : State) n, P s → P (s.ageTimers n)
  inRun : ∀ (s : State) meas rails, s.time.domain = .run → rails.capture = s.rails.capture → P s →
    P { s with meas := meas, rails := rails }
  unlatch : ∀ s : State, P s → P { s with meas := { s.meas with sagLatch := false } }
  settings : ∀ (s : State) x,
    (x.capacity = s.settings.capacity ∨ (s.queue.records.length ≤ x.capacity ∧ x.capacity ≤ 8)) → P s →
    P { s with settings := x }
  sendP : ∀ (s : State) ps, s.time.domain = .run → P s → P (s.sendAllP ps)
  sendS : ∀ (s : State) ps, s.time.domain = .run → P s → P { s with slink := { s.slink with tx := s.slink.tx ++ ps } }
  session : ∀ (s : State) x, s.time.domain = .run → SessionMoves s.session.state x.state → P s → P { s with session := x }
  leaveSession : ∀ s : State, s.time.domain = .run → P s → P s.leaveSession
  queue : ∀ (s : State) q, s.time.domain = .run → q.module = s.queue.module →
    (s.queue.records = [] → q.records = []) → (QueueSound s → QueueSound { s with queue := q }) → P s →
    P { s with queue := q }
  forget : ∀ s : State, P s → P { s with queue := { s.queue with failures := 0, faultCode := none } }
  booted : ∀ s : State, s.time.domain = .run → s.queue.module = .booting → P s →
    P { s with queue := { s.queue with module := .ready, bootTimer := .idle } }
  issue : ∀ (s : State) specs, s.time.domain = .run → s.queue.module = .ready →
    (QueueSound s → QueueSound (s.issue specs)) → P s → P (s.issue specs)
  driveCapture : ∀ (s : State) why, s.time.domain = .run → P s → P (s.driveCapture why)
  exchange : ∀ (s : State) tables, Exchangeable tables s → P s → P (s.exchangeTables tables)
  store : ∀ (s : State) st, s.time.domain = .run → (StoreSound s → StoreSound { s with store := st }) → P s →
    P { s with store := st }

/-- A property that the changes of the supply-domain state keep as well (01 R11 to R13). -/
structure KeptBySupply (P : State → Prop) : Prop extends Kept P where
  enterReset : ∀ s : State, P s → P (s.holdMain.enterDomain .reset)
  enterPowerBad : ∀ s : State, P s → P ((s.holdMain.endPending .power).enterDomain .powerBad)
  release : ∀ s : State, s.time.domain ≠ .run → P s → P (s.enterDomain .run)
  stayHeld : ∀ s : State, s.time.domain = .reset → s.sched.slot = none → P s → P (s.enterDomain .powerBad)
  cold : ∀ s : State, P s → P { State.reset with pending := s.pending }

end Sys2Proof.Machine
end

section
/-! PROOF. The Shot Queue's changes keep it sound: records mapped or removed, and an issue that fits (04 R60, R61). -/

namespace Sys2Proof.Machine

/-- Whether a record is OFFERED or RELEASING, of which there is one at most (04 R60). -/
def ShotRecord.engaged (r : ShotRecord) : Bool := decide (r.state = .offered) || decide (r.state = .releasing)

theorem number_engaged (q : ShotQueue) :
    q.number .offered + q.number .releasing = q.records.countP ShotRecord.engaged := by
  unfold ShotQueue.number
  induction q.records with
  | nil => rfl
  | cons r rs ih =>
    simp only [List.countP_cons, ShotRecord.engaged] at ih ⊢
    by_cases offered : r.state = .offered
    · simp [offered]; omega
    · by_cases releasing : r.state = .releasing <;> simp [offered, releasing] <;> omega

theorem queueSound_iff (s : State) : QueueSound s ↔
    s.queue.records.length ≤ s.settings.capacity ∧ s.settings.capacity ≤ 8 ∧ (s.queue.records.map (·.tag)).Nodup ∧
      s.queue.records.countP ShotRecord.engaged ≤ 1 ∧ s.queue.failures ≤ 15 := by
  rw [QueueSound, number_engaged]
  rfl

/-- A queue of the same or fewer records, with their tags and no more of them engaged, is sound. -/
theorem queueSound_of_fewer {s : State} {q : ShotQueue} (sound : QueueSound s) (failures : q.failures ≤ 15)
    (tags : (q.records.map (·.tag)).Sublist (s.queue.records.map (·.tag)))
    (engaged : q.records.countP ShotRecord.engaged ≤ 1) : QueueSound { s with queue := q } := by
  rw [queueSound_iff] at sound ⊢
  obtain ⟨fits, small, distinct, -, -⟩ := sound
  have fewer : q.records.length ≤ s.queue.records.length := by simpa using tags.length_le
  exact ⟨fewer.trans fits, small, distinct.sublist tags, engaged, failures⟩

/-- Records changed one by one, each with its tag and none newly engaged. -/
theorem queueSound_of_map {s : State} {q : ShotQueue} (f : ShotRecord → ShotRecord)
    (records : q.records = s.queue.records.map f) (failures : q.failures ≤ 15) (tag : ∀ r, (f r).tag = r.tag)
    (engaged : ∀ r ∈ s.queue.records, (f r).engaged = true → r.engaged = true) (sound : QueueSound s) :
    QueueSound { s with queue := q } := by
  have before := ((queueSound_iff s).mp sound).2.2.2.1
  refine queueSound_of_fewer sound failures ?_ ?_
  · have same : ShotRecord.tag ∘ f = ShotRecord.tag := funext tag
    rw [records, List.map_map, same]
  · rw [records, List.countP_map]
    exact (List.countP_mono_left engaged).trans before

/-- Records removed. -/
theorem queueSound_of_filter {s : State} {q : ShotQueue} (p : ShotRecord → Bool)
    (records : q.records = s.queue.records.filter p) (failures : q.failures ≤ 15) (sound : QueueSound s) :
    QueueSound { s with queue := q } := by
  have before := ((queueSound_iff s).mp sound).2.2.2.1
  refine queueSound_of_fewer sound failures ?_ ?_
  · rw [records]; exact List.filter_sublist.map _
  · rw [records]; exact (List.filter_sublist.countP_le).trans before

/-- The same records. -/
theorem queueSound_of_same {s : State} {q : ShotQueue} (records : q.records = s.queue.records) (failures : q.failures ≤ 15)
    (sound : QueueSound s) : QueueSound { s with queue := q } :=
  queueSound_of_map id (by rw [records, List.map_id]) failures (fun _ => rfl) (fun _ _ h => h) sound

/-- With distinct tags, the record with a tag is the only one that can be newly engaged. -/
theorem queueSound_engage {s : State} {q : ShotQueue} (tag : Byte) (state : RecState)
    (records : q.records = s.queue.records.map fun r => if r.tag = tag then { r with state := state } else r)
    (failures : q.failures ≤ 15)
    (free : ∀ r ∈ s.queue.records, r.engaged = true → r.tag = tag) (sound : QueueSound s) :
    QueueSound { s with queue := q } := by
  have distinct := ((queueSound_iff s).mp sound).2.2.1
  refine queueSound_of_fewer sound failures ?_ ?_
  · have same : ShotRecord.tag ∘ (fun r : ShotRecord => if r.tag = tag then { r with state := state } else r) =
        ShotRecord.tag := funext fun r => by simp only [Function.comp_apply]; split <;> rfl
    rw [records, List.map_map, same]
  · rw [records, List.countP_map]
    calc s.queue.records.countP _ ≤ s.queue.records.countP fun r => decide (r.tag = tag) := by
          refine List.countP_mono_left fun r mem h => ?_
          by_contra other
          simp only [decide_eq_true_eq] at other
          rw [Function.comp_apply, if_neg other] at h
          exact other (free r mem h)
      _ = (s.queue.records.map (·.tag)).count tag := by
          rw [List.count, List.countP_map]
          exact List.countP_congr fun r _ => by simp
      _ ≤ 1 := List.nodup_iff_count_le_one.mp distinct tag

/-- An issue that fits the free slots keeps the queue sound. -/
theorem queueSound_issue {s : State} {specs : List ShotSpec} (fits : specs.length ≤ s.freeSlots) (sound : QueueSound s) :
    QueueSound (s.issue specs) := by
  rw [queueSound_iff] at sound ⊢
  obtain ⟨within, small, distinct, engaged, failures⟩ := sound
  unfold State.freeSlots at fits
  have none_engaged : (s.issueRecords specs).countP ShotRecord.engaged = 0 := by
    refine List.countP_eq_zero.mpr fun r mem => ?_
    obtain ⟨sp, n, rfl⟩ := mem_issueRecords s specs mem
    simp [ShotRecord.engaged, State.newRecord]
  rw [issue_records, issue_failures, issue_settings]
  refine ⟨?_, small, issueRecords_tags_nodup s specs distinct (by omega), ?_, failures⟩
  · rw [List.length_append, issueRecords_length]; omega
  · rw [List.countP_append, none_engaged]; exact engaged

end Sys2Proof.Machine
end

section
/-! PROOF. The Table Store's changes keep it sound (09 R165 to R175): the check of each bank by its table, and the staged
banks that a transaction or a pending commit speaks of. -/

namespace Sys2Proof.Machine

/-- Whether both banks of a table pass its check when VALID. -/
def TableStore.pairSound (st : TableStore) : Table → Prop
  | .window => PairSound windowTableOk st.window
  | .program => PairSound programTableOk st.program
  | .ladder => PairSound ladderTableOk st.ladder
  | .correction => PairSound correctionTableOk st.correction
  | .retention => PairSound retentionTableOk st.retention
  | .tier => PairSound tierTableOk st.tier
  | .thermal => PairSound thermalTableOk st.thermal

theorem storeSound_iff (s : State) : StoreSound s ↔
    (∀ t, s.store.pairSound t) ∧ (∀ tr, s.store.load = some tr → s.store.stagedValid tr.table = false) ∧
      ∀ c, s.store.commit = some c → ∀ t ∈ c.tables, s.store.stagedValid t = true := by
  constructor
  · rintro ⟨w, p, l, c, r, e, h, load, commit⟩
    exact ⟨fun t => by cases t <;> assumption, load, commit⟩
  · rintro ⟨pairs, load, commit⟩
    exact ⟨pairs .window, pairs .program, pairs .ladder, pairs .correction, pairs .retention, pairs .tier, pairs .thermal,
      load, commit⟩

section Pair
variable {α : Type} {ok : List α → Bool} {bp : BankPair α}

theorem pairSound_dropStaged (h : PairSound ok bp) : PairSound ok bp.dropStaged := ⟨h.1, nofun⟩

/-- A row stored in a bank that is EMPTY asks for no check. -/
theorem pairSound_addRow (h : PairSound ok bp) (empty : bp.staged.valid = false) (r : α) : PairSound ok (bp.addRow r) :=
  ⟨h.1, fun valid => absurd valid (by simp [BankPair.addRow, empty])⟩

theorem pairSound_seal (h : PairSound ok bp) (passed : ok bp.staged.rows = true) (check : Word16) :
    PairSound ok (bp.seal check) := ⟨h.1, fun _ => passed⟩

theorem pairSound_swap (h : PairSound ok bp) (named : Bool) : PairSound ok (bp.swap named) := by
  cases named
  · exact h
  · exact ⟨h.2, h.1⟩

end Pair

section Store
variable {st : TableStore}

theorem pairSound_emptyStaged {u : Table} (h : st.pairSound u) (t : Table) : (st.emptyStaged t).pairSound u := by
  cases t <;> cases u <;> first | exact h | exact pairSound_dropStaged h

theorem stagedValid_emptyStaged (t u : Table) :
    (st.emptyStaged t).stagedValid u = if u = t then false else st.stagedValid u := by
  cases t <;> cases u <;> rfl

theorem emptyStaged_load (t : Table) : (st.emptyStaged t).load = st.load := by cases t <;> rfl
theorem emptyStaged_commit (t : Table) : (st.emptyStaged t).commit = st.commit := by cases t <;> rfl

theorem pairSound_sealStaged {u : Table} (h : st.pairSound u) {t : Table} (passed : st.stagedOk t = true) (check : Word16) :
    (st.sealStaged t check).pairSound u := by
  cases t <;> cases u <;> first | exact h | exact pairSound_seal h passed check

theorem stagedValid_sealStaged (t u : Table) (check : Word16) :
    (st.sealStaged t check).stagedValid u = if u = t then true else st.stagedValid u := by
  cases t <;> cases u <;> rfl

theorem sealStaged_commit (t : Table) (check : Word16) : (st.sealStaged t check).commit = st.commit := by
  cases t <;> rfl

/-- A row stored joins its table's staged bank, and nothing else changes. -/
theorem storeRow_cases {t : Table} {fields : List Byte} {st' : TableStore} (h : st.storeRow t fields = some st') :
    (st.stagedValid t = false → ∀ u, st.pairSound u → st'.pairSound u) ∧ (∀ u, st'.stagedValid u = st.stagedValid u) ∧
      st'.load = st.load ∧ st'.commit = st.commit := by
  cases t <;>
    (obtain ⟨r, -, rfl⟩ := Option.map_eq_some_iff.mp h
     refine ⟨fun empty u sound => ?_, fun u => by cases u <;> rfl, rfl, rfl⟩
     cases u <;> first | exact sound | exact pairSound_addRow sound empty r)

theorem pairSound_exchange {u : Table} (h : st.pairSound u) (tables : List Table) : (st.exchange tables).pairSound u := by
  cases u <;> exact pairSound_swap h _

theorem stagedValid_exchange {tables : List Table} {u : Table} (other : u ∉ tables) :
    (st.exchange tables).stagedValid u = st.stagedValid u := by
  cases u <;> simp [TableStore.exchange, TableStore.stagedValid, BankPair.swap, other]

/-! ### The staged banks of a transaction and of a pending commit -/

/-- The staged bank of an open transaction is none of a pending commit's (09 R167). -/
theorem load_not_committed {s : State} (sound : StoreSound s) {tr : Transaction} (load : s.store.load = some tr)
    {c : PendingCommit} (commit : s.store.commit = some c) : tr.table ∉ c.tables := by
  obtain ⟨-, loading, pending⟩ := (storeSound_iff s).mp sound
  intro named
  have empty := loading tr load
  rw [pending c commit _ named] at empty
  cases empty

/-- A table's staged bank emptied for a new transaction, or at the end of one (09 R167, R172). -/
theorem storeSound_emptyStaged {s : State} {t : Table} (free : ∀ c, s.store.commit = some c → t ∉ c.tables)
    (load : Option Transaction) (table : ∀ tr, load = some tr → tr.table = t) (sound : StoreSound s) :
    StoreSound { s with store := { s.store.emptyStaged t with load := load } } := by
  obtain ⟨pairs, -, pending⟩ := (storeSound_iff s).mp sound
  refine (storeSound_iff _).mpr ⟨fun u => pairSound_emptyStaged (pairs u) t, fun tr h => ?_, fun c h u mem => ?_⟩
  · exact (stagedValid_emptyStaged t tr.table).trans (if_pos (table tr h))
  · have commit : s.store.commit = some c := (emptyStaged_commit t).symm.trans h
    have other : u ≠ t := fun same => free c commit (same ▸ mem)
    exact (stagedValid_emptyStaged t u).trans ((if_neg other).trans (pending c commit u mem))

theorem storeSound_abandon {s : State} (sound : StoreSound s) : StoreSound { s with store := s.store.abandon } := by
  unfold TableStore.abandon
  cases load : s.store.load with
  | none => exact sound
  | some tr => exact storeSound_emptyStaged (fun c => load_not_committed sound load) none nofun sound

/-- A row stored in the staged bank of the transaction (09 R168). -/
theorem storeSound_storeRow {s : State} {tr next : Transaction} {fields : List Byte} {st : TableStore}
    (load : s.store.load = some tr) (stored : s.store.storeRow tr.table fields = some st) (same : next.table = tr.table)
    (sound : StoreSound s) : StoreSound { s with store := { st with load := some next } } := by
  obtain ⟨pairs, loading, pending⟩ := (storeSound_iff s).mp sound
  obtain ⟨kept, valid, -, commit⟩ := storeRow_cases stored
  refine (storeSound_iff _).mpr ⟨fun u => kept (loading tr load) u (pairs u), ?_, fun c h u mem => ?_⟩
  · rintro _ ⟨⟩
    exact (valid _).trans (by rw [same]; exact loading tr load)
  · exact (valid u).trans (pending c (commit.symm.trans h) u mem)

/-- The staged bank sealed at CLOSE (09 R170). -/
theorem storeSound_seal {s : State} {t : Table} (check : Word16) (passed : s.store.stagedOk t = true) (sound : StoreSound s) :
    StoreSound { s with store := { s.store.sealStaged t check with load := none } } := by
  obtain ⟨pairs, -, pending⟩ := (storeSound_iff s).mp sound
  refine (storeSound_iff _).mpr ⟨fun u => pairSound_sealStaged (pairs u) passed check, nofun, fun c h u mem => ?_⟩
  refine (stagedValid_sealStaged t u check).trans ?_
  split
  · rfl
  · exact pending c ((sealStaged_commit t check).symm.trans h) u mem

/-- A commit with VALID staged banks becomes pending (09 R175). -/
theorem storeSound_pend {s : State} {c : PendingCommit} (staged : ∀ t ∈ c.tables, s.store.stagedValid t = true)
    (sound : StoreSound s) : StoreSound { s with store := { s.store with commit := some c } } := by
  obtain ⟨pairs, loading, -⟩ := (storeSound_iff s).mp sound
  refine (storeSound_iff _).mpr ⟨pairs, loading, ?_⟩
  rintro _ ⟨⟩
  exact staged

/-- Exchangeable tables are exchanged (09 R174). -/
theorem storeSound_exchange {s : State} {tables : List Table} (may : Exchangeable tables s) (sound : StoreSound s) :
    StoreSound { s with store := { s.store.exchange tables with commit := none } } := by
  obtain ⟨pairs, loading, -⟩ := (storeSound_iff s).mp sound
  refine (storeSound_iff _).mpr ⟨fun u => pairSound_exchange (pairs u) tables, fun tr load => ?_, nofun⟩
  have other : tr.table ∉ tables := by
    obtain ⟨point, commit⟩ | ⟨-, idle, -, -⟩ := may
    · exact load_not_committed sound load commit
    · cases idle.symm.trans load
  exact (stagedValid_exchange other).trans (loading tr load)

end Store

end Sys2Proof.Machine
end

section
/-! PROOF. What survives every elementary change survives the operations that the commands share: counts and sends, the
capture rail, the session, the end of an event, issues, ticks and swaps. -/

namespace Sys2Proof.Machine.Kept

variable {P : State → Prop} (K : Kept P) {s : State}
include K

/-! ### Counts, flags and sends -/

theorem count (k : Counter) (h : P s) : P (s.count k) := K.quiet s _ _ _ _ _ _ h
theorem countMany (k : Counter) (n : Nat) (h : P s) : P (s.countMany k n) := K.quiet s _ _ _ _ _ _ h
theorem answer (h : P s) (kind : Byte) (r : AnswerCode) (run : s.time.domain = .run) : P (s.answer kind r) :=
  K.sendP s [_] run h
theorem sendOneP (h : P s) (p : Packet) (run : s.time.domain = .run) : P (s.sendP p) := K.sendP s [p] run h
theorem sendOneS (h : P s) (p : Packet) (run : s.time.domain = .run) : P (s.sendS p) := K.sendS s [p] run h

theorem endPending (why : SkipReason) (h : P s) : P (s.endPending why) := by
  unfold State.endPending
  split
  · exact h
  · exact K.sched _ _ (.inl rfl) (K.count _ h)

/-- A change of what no other block reads. -/
theorem quietly (h : P s) (counters : Counters) (flags : StickyFlags) (inputs : InputFlags) (ramp : Ramp)
    (retention : Retention) (pins : Pins) :
    P { s with counters := counters, flags := flags, inputs := inputs, ramp := ramp, retention := retention, pins := pins } :=
  K.quiet s _ _ _ _ _ _ h

/-- A change of the rails in RUN, but for the capture rail. -/
theorem rails (h : P s) (r : Rails) (run : s.time.domain = .run) (same : r.capture = s.rails.capture) :
    P { s with rails := r } := K.inRun s s.meas r run same h

/-- A change of the Measurement Unit in RUN. -/
theorem meas (h : P s) (m : Measurement) (run : s.time.domain = .run) : P { s with meas := m } :=
  K.inRun s m s.rails run rfl h

/-- A change of the queue that leaves its records. -/
theorem queueSame (h : P s) (q : ShotQueue) (run : s.time.domain = .run) (records : q.records = s.queue.records)
    (module : q.module = s.queue.module) (failures : q.failures = s.queue.failures ∨ q.failures ≤ 15) :
    P { s with queue := q } := by
  refine K.queue s q run module (fun none => records.trans none) (fun sound => queueSound_of_same records ?_ sound) h
  obtain same | few := failures
  · rw [same]; exact ((queueSound_iff s).mp sound).2.2.2.2
  · exact few

/-- A change of the queue that maps its records, engaging none. -/
theorem queueMap (h : P s) (q : ShotQueue) (f : ShotRecord → ShotRecord) (run : s.time.domain = .run)
    (records : q.records = s.queue.records.map f) (module : q.module = s.queue.module)
    (failures : q.failures = s.queue.failures ∨ q.failures = 0) (tag : ∀ r, (f r).tag = r.tag)
    (engaged : ∀ r ∈ s.queue.records, (f r).engaged = true → r.engaged = true) : P { s with queue := q } := by
  refine K.queue s q run module (fun none => by rw [records, none]; rfl)
    (fun sound => queueSound_of_map f records ?_ tag engaged sound) h
  obtain same | zero := failures
  · rw [same]; exact ((queueSound_iff s).mp sound).2.2.2.2
  · omega

/-- A change of the queue that removes records. -/
theorem queueFilter (h : P s) (q : ShotQueue) (p : ShotRecord → Bool) (run : s.time.domain = .run)
    (records : q.records = s.queue.records.filter p) (module : q.module = s.queue.module)
    (failures : q.failures = s.queue.failures ∨ q.failures = 0) : P { s with queue := q } := by
  refine K.queue s q run module (fun none => by rw [records, none]; rfl)
    (fun sound => queueSound_of_filter p records ?_ sound) h
  obtain same | zero := failures
  · rw [same]; exact ((queueSound_iff s).mp sound).2.2.2.2
  · omega

theorem raiseFailures (run : s.time.domain = .run) (h : P s) : P s.raiseFailures := by
  have counted := K.queueSame h { s.queue with failures := min Config.maxFailures (s.queue.failures + 1) } run rfl rfl
    (.inr (Nat.min_le_left 15 _))
  exact K.rails counted _ run rfl

theorem flush (run : s.time.domain = .run) (h : P s) : P s.flush := by
  refine K.queueFilter (K.countMany .lost s.queue.records.length h) _ (fun _ => false) run ?_ rfl (.inl rfl)
  simp

/-! ### The end of an event (log 7) -/

theorem refreshDemand (run : s.time.domain = .run) (h : P s) : P s.refreshDemand := K.rails h _ run rfl
theorem driveLoads (run : s.time.domain = .run) (h : P s) : P s.driveLoads := K.rails h _ run rfl

theorem arbitrate (h : P s) : P s.arbitrate := by
  unfold State.arbitrate
  split
  · rename_i run _ _ _; exact K.meas h _ run
  · exact h

theorem reportEdges (before : State) (run : s.time.domain = .run) (h : P s) : P (State.reportEdges before s) := by
  unfold State.reportEdges
  split
  · refine K.arbitrate ?_
    have opened : P s.openBlanking := by
      unfold State.openBlanking
      split
      · exact h
      · exact K.meas h _ run
    unfold State.spoil
    split
    · exact opened
    · exact K.meas (K.count _ opened) _ (by simpa using run)
  · exact h

theorem concludeLoads (before : State) (run : s.time.domain = .run) (h : P s) : P (State.concludeLoads before s) :=
  K.reportEdges before (by simpa using run) (K.driveLoads run h)

theorem evaluateWake (h : P s) : P s.evaluateWake := by
  unfold State.evaluateWake
  split
  · rename_i evaluated
    obtain ⟨run, off, -, -⟩ := evaluated
    exact K.session s _ run (.inr (.inl ⟨off, rfl⟩)) h
  · exact h

theorem endSession (run : s.time.domain = .run) (h : P s) : P s.endSession := K.evaluateWake (K.leaveSession s run h)

/-- A change of the session that leaves its state. -/
theorem sessionSame (h : P s) (x : Session) (run : s.time.domain = .run) (same : x.state = s.session.state) :
    P { s with session := x } := K.session s x run (.inl same) h

/-- A move of the session. -/
theorem sessionMoved (h : P s) (x : Session) (run : s.time.domain = .run) (moves : SessionMoves s.session.state x.state) :
    P { s with session := x } := K.session s x run moves h

/-- The record of an offer is the only one engaged, when none was (06 R112). -/
theorem beginOffer {r : ShotRecord} (found : s.offerCandidate = some r) (run : s.time.domain = .run) (h : P s) :
    P (s.beginOffer r) := by
  have may : s.mayOffer = true := by
    unfold State.offerCandidate at found
    split at found
    · assumption
    · cases found
  simp only [State.mayOffer, ShotQueue.has, Bool.and_eq_true, Bool.not_eq_true', List.any_eq_false,
    decide_eq_true_eq] at may
  obtain ⟨⟨-, offered⟩, releasing⟩ := may
  have engaged : P { s with queue := s.queue.alter r.tag fun x => { x with state := .offered } } := ?_
  exact K.sessionSame engaged _ run rfl
  refine K.queue s _ run rfl (fun none => by simp [ShotQueue.alter, none]) (fun sound => ?_) h
  refine queueSound_engage r.tag .offered rfl ((queueSound_iff s).mp sound).2.2.2.2 (fun q mem engaged => ?_) sound
  simp [ShotRecord.engaged, offered q mem, releasing q mem] at engaged

theorem offerTest (run : s.time.domain = .run) (h : P s) : P s.offerTest := by
  unfold State.offerTest
  split
  · exact h
  · rename_i r found
    exact K.sendOneP (K.beginOffer found run h) _ (by simpa using run)

theorem sessionAfter (run : s.time.domain = .run) (h : P s) : P s.sessionAfter := by
  unfold State.sessionAfter
  split
  · refine K.offerTest (by simpa using run) ?_
    unfold State.cancelOffer
    split
    · exact h
    · exact K.sessionSame h _ run rfl
  · split
    · exact h
    · exact K.endSession run h
  · exact K.evaluateWake h
  · exact h

theorem conclude (why : SkipReason) (before : State) (run : s.time.domain = .run) (h : P s) :
    P (State.conclude why before s) := by
  have driven : (s.driveCapture why).time.domain = .run := by simpa using run
  exact K.concludeLoads before (by simpa using run) (K.sessionAfter driven (K.driveCapture s why run h))

theorem settle (why : SkipReason) (before : State) (run : s.time.domain = .run) (h : P s) :
    P (State.settle why before s) :=
  K.conclude why before (by simpa using run) (K.refreshDemand run h)

theorem settleIfPresented (why : SkipReason) (before : State) (run : s.time.domain = .run) (h : P s) :
    P (State.settleIfPresented why before s) := by
  unfold State.settleIfPresented
  split
  · exact K.settle why before run h
  · exact K.conclude why before run h

/-! ### Sessions -/

theorem moveAllToHeld (h : P s) (a : RecState) (run : s.time.domain = .run) :
    P { s with queue := s.queue.moveAll a .held } := by
  refine K.queueMap h _ (fun r => if r.state = a then { r with state := .held } else r) run rfl rfl (.inl rfl)
    (fun r => by split <;> rfl) (fun r _ engaged => ?_)
  split at engaged
  · exact absurd engaged (by simp [ShotRecord.engaged])
  · exact engaged

theorem forceSleep (run : s.time.domain = .run) (h : P s) : P s.forceSleep := by
  have moved := K.moveAllToHeld (K.moveAllToHeld h .offered run) .releasing run
  have idle := K.queueSame moved { (s.queue.moveAll .offered .held).moveAll .releasing .held with deliveryTimer := .idle }
    run rfl rfl (.inl rfl)
  exact K.endSession run (K.quiet _ _ _ _ _ _ _ idle)

theorem statusThenOffer (run : s.time.domain = .run) (h : P s) : P s.statusThenOffer := by
  have status {x : State} (run : x.time.domain = .run) (h : P x) : P x.sendStatus :=
    K.quiet _ _ _ _ _ _ _ (K.sendP x x.statusReport run h)
  unfold State.statusThenOffer
  split
  · exact status run h
  · rename_i r found
    exact K.sendOneP (status (by simpa using run) (K.beginOffer found run h)) _ (by simpa using run)

/-! ### Shots (02, 04 R70) -/

theorem present (run : s.time.domain = .run) (h : P s) : P s.present := K.rails h _ run rfl

theorem issueOrSkip (specs : List ShotSpec) (run : s.time.domain = .run) (ready : s.queue.module = .ready) (h : P s) :
    P (s.issueOrSkip specs) := by
  unfold State.issueOrSkip
  split
  · rename_i fits
    exact K.issue s specs run ready (queueSound_issue fits) h
  · exact K.count _ h

theorem fillSlot (p : PendingShot) (run : s.time.domain = .run) (h : P s) : P (s.fillSlot p) :=
  K.rails (K.sched s { s.sched with slot := some p } (.inr (.inr run)) h) _ run rfl

theorem issuePending (run : s.time.domain = .run) (ready : s.queue.module = .ready) (h : P s) : P s.issuePending := by
  unfold State.issuePending
  split
  · exact h
  · exact K.issueOrSkip _ run ready (K.sched s _ (.inl rfl) h)

theorem takeDueShot (kind : PendingKind) (suspended : Bool) (h : P s) : P (s.takeDueShot kind suspended) := by
  unfold State.takeDueShot
  split
  · exact K.count _ h
  · split
    · rename_i run
      unfold State.handleShot
      split
      · exact K.count _ h
      · split
        · rename_i ready
          exact K.issueOrSkip _ run ready h
        · split
          · exact K.count _ h
          · exact K.fillSlot _ run h
    · exact K.count _ h

theorem entryClamp (h : P s) : P s.entryClamp := by
  unfold State.entryClamp
  split
  · exact h
  · exact K.quiet s _ _ _ _ _ _ h

theorem selectWindow (h : P s) : P s.selectWindow := by
  unfold State.selectWindow
  split
  · exact K.sched s _ (.inr (.inl rfl)) h
  · exact h

theorem enterSilently (h : P s) : P s.enterSilently := by
  unfold State.enterSilently
  split
  · exact K.entryClamp (K.selectWindow h)
  · exact h

theorem enterRow (i : Nat) (h : P s) : P (s.enterRow i) := K.entryClamp (K.sched s _ (.inr (.inl rfl)) h)

theorem rampAfterSwap (tables : List Table) (h : P s) : P (s.rampAfterSwap tables) := by
  unfold State.rampAfterSwap
  split
  · exact K.quiet s _ _ _ _ _ _ h
  · split
    · split
      · exact K.entryClamp h
      · exact h
    · exact h

theorem swap (tables : List Table) (may : Exchangeable tables s) (h : P s) : P (s.swap tables) := by
  have exchanged := K.exchange s tables may h
  refine K.rampAfterSwap tables ?_
  split
  · exact K.selectWindow exchanged
  · exact exchanged

theorem makeCommit (points : List CommitPoint) (h : P s) : P (s.makeCommit points) := by
  unfold State.makeCommit
  split
  · exact h
  · rename_i c commit
    split
    · exact K.swap _ (.inl ⟨c.point, commit⟩) h
    · exact h

theorem scheduledShotDue (h : P s) : P s.scheduledShotDue := by
  have cleared : P (State.clearSagAtShot { s with sched := { s.sched with elapsed := 0 } }) := by
    have zero := K.sched s { s.sched with elapsed := 0 } (.inr (.inl rfl)) h
    unfold State.clearSagAtShot
    split
    · exact K.unlatch _ zero
    · exact zero
  exact K.takeDueShot _ _ (K.makeCommit _ cleared)

/-! ### Ticks (01 R3, 02 R18) -/

theorem rollover (before : TimeBase) (h : P s) : P (s.rollover before) := by
  unfold State.rollover
  split
  · exact h
  · exact K.wakes s 0 h

theorem tickEntry (wrapped : Bool) (h : P s) : P (s.tickEntry wrapped) := by
  have counted : P s.countElapsed := K.sched s _ (.inr (.inl rfl)) h
  unfold State.tickEntry
  split
  · exact K.enterSilently counted
  · unfold State.passingEntry
    split
    · exact counted
    · dsimp only
      split
      · exact K.makeCommit _ counted
      · exact K.enterRow _ (K.makeCommit _ counted)

theorem schedulerTick (wrapped : Bool) (h : P s) : P (s.schedulerTick wrapped) := by
  unfold State.schedulerTick
  split
  · exact h
  · split
    · exact K.scheduledShotDue (K.tickEntry wrapped h)
    · exact K.tickEntry wrapped h

theorem secondTick (h : P s) : P s.secondTick := by
  have advanced : P ((s.ageTimers (Config.msPerSecond - s.time.phase)).advanceSecond) :=
    K.rollover _ (K.time (s.ageTimers _) _ rfl (.inl (by simp)) (K.age s _ h))
  unfold State.secondTick
  cases domain : s.time.domain with
  | reset => exact advanced
  | powerBad => exact K.schedulerTick _ advanced
  | run =>
    have ticked := K.schedulerTick s.wraps advanced
    have run : (((s.ageTimers (Config.msPerSecond - s.time.phase)).advanceSecond).schedulerTick s.wraps).time.domain =
        .run := by simp [State.advanceSecond, domain]
    exact K.settle _ _ (by simpa using run) (K.present run ticked)

theorem millisecond (h : P s) : P s.millisecond := by
  unfold State.millisecond
  split
  · rename_i within
    exact K.time _ _ rfl (.inl within) (K.age s 1 h)
  · exact K.secondTick h

end Sys2Proof.Machine.Kept
end

section
/-! PROOF. What survives every elementary change survives what each block does with a packet it takes. -/

namespace Sys2Proof.Machine

theorem rampUpdate_time (s : State) (r : ShotRecord) (f : Facts) : (s.rampUpdate r f).time = s.time := by
  unfold State.rampUpdate
  split
  · rfl
  · split
    · rfl
    · split <;> rfl

theorem judge_time (s : State) (r : ShotRecord) (mean : Byte) : (s.judge r mean).time = s.time := by
  unfold State.judge
  split <;> rfl

/-- One record engaged at most: any two are the same. -/
theorem engaged_unique {records : List ShotRecord} (one : records.countP ShotRecord.engaged ≤ 1) {a b : ShotRecord}
    (ha : a ∈ records) (hb : b ∈ records) (ea : a.engaged = true) (eb : b.engaged = true) : a = b := by
  rw [List.countP_eq_length_filter] at one
  have ma := List.mem_filter.mpr ⟨ha, ea⟩
  have mb := List.mem_filter.mpr ⟨hb, eb⟩
  obtain none | ⟨x, single⟩ : records.filter ShotRecord.engaged = [] ∨ ∃ x, records.filter ShotRecord.engaged = [x] := by
    cases listed : records.filter ShotRecord.engaged with
    | nil => exact .inl rfl
    | cons x rest =>
      rw [listed] at one
      exact .inr ⟨x, by simpa using one⟩
  · rw [none] at ma; cases ma
  · rw [single, List.mem_singleton] at ma mb
    rw [ma, mb]

/-- The reply names the OFFERED record (06 R113). -/
theorem answersOffer_iff (tag : Byte) (s : State) : s.answersOffer tag = true ↔
    s.session.state = .awake ∧ s.session.offerSent = true ∧ ∃ r, s.queue.oldest .offered = some r ∧ r.tag = tag := by
  cases found : s.queue.oldest .offered <;> simp [State.answersOffer, found, and_assoc]

theorem mem_of_oldest {q : ShotQueue} {st : RecState} {r : ShotRecord} (h : q.oldest st = some r) :
    r ∈ q.records ∧ r.state = st :=
  ⟨List.mem_of_find?_eq_some h, by simpa using List.find?_some h⟩

theorem alter_nil {q : ShotQueue} {tag : Byte} {f : ShotRecord → ShotRecord} (none : q.records = []) :
    (q.alter tag f).records = [] := by
  simp [ShotQueue.alter, none]

/-- Only CAPACITY sets CAPACITY. -/
theorem put_capacity {i : Item} (other : i ≠ .capacity) (x : Settings) (v : Word32) :
    (x.put i v).capacity = x.capacity := by
  cases i <;> first | rfl | exact absurd rfl other

/-- A COMMIT answered OK found neither a transaction nor a commit, and its staged banks VALID (09 R173). -/
theorem commitAnswer_ok {s : State} {c : PendingCommit} (ok : s.commitAnswer c = .ok) :
    s.store.commit = none ∧ s.store.load = none ∧ (∀ t ∈ c.tables, s.store.stagedValid t = true) ∧
      s.store.crossOk c.tables = true := by
  unfold State.commitAnswer at ok
  split_ifs at ok with commit load staged cross
  simp only [Option.isSome_iff_ne_none, ne_eq, not_not] at commit load
  exact ⟨commit, load, by simpa using staged, by simpa using cross⟩

namespace Kept

variable {P : State → Prop} (K : Kept P) {s : State}
include K

/-! ### Module notices (04) -/

/-- A change of one record that does not engage it. -/
theorem alter (h : P s) (tag : Byte) (f : ShotRecord → ShotRecord) (run : s.time.domain = .run)
    (number : ∀ r, (f r).number = r.number) (engaged : ∀ r, (f r).engaged = true → r.engaged = true) :
    P { s with queue := s.queue.alter tag f } := by
  refine K.queueMap h _ (fun r => if r.tag = tag then f r else r) run rfl rfl (.inl rfl) (fun r => ?_) (fun r _ => ?_)
  · split
    · exact congrArg (BitVec.setWidth 8) (number r)
    · rfl
  · split
    · exact engaged r
    · exact id

theorem remove (h : P s) (tag : Byte) (run : s.time.domain = .run) : P { s with queue := s.queue.remove tag } :=
  K.queueFilter h _ _ run rfl rfl (.inl rfl)

theorem rampUpdate (r : ShotRecord) (f : Facts) (h : P s) : P (s.rampUpdate r f) := by
  unfold State.rampUpdate
  split
  · exact K.count _ h
  · split
    · exact h
    · split
      · exact K.quiet s _ _ _ _ _ _ h
      · exact h
      · exact h

theorem judge (r : ShotRecord) (mean : Byte) (run : s.time.domain = .run) (h : P s) : P (s.judge r mean) := by
  unfold State.judge
  split
  · have kept := K.alter h r.tag (fun x => { x with state := .held, heldSince := some s.time.calendar }) run
      (fun _ => rfl) (fun _ engaged => absurd engaged (by simp [ShotRecord.engaged]))
    exact K.quietly kept _ _ _ _ _ _
  · have removed := K.remove h r.tag run
    have judged := K.quietly removed (s.count .ruleDropped).counters s.flags s.inputs s.ramp
      ⟨s.decimationAfter r.role mean, s.retention.lastKeptCenter⟩ s.pins
    exact K.sendOneS judged (dropPacket r.tag) run

theorem takeFrame (r : ShotRecord) (f : Facts) (run : s.time.domain = .run) (h : P s) :
    P (s.takeFrame r f) ∧ (s.takeFrame r f).time.domain = .run := by
  have stored := K.alter h r.tag (fun x => { x with facts := some f }) run (fun _ => rfl) (fun _ engaged => engaged)
  have ramped : P (if r.role = .center
      then ({ s with queue := s.queue.alter r.tag fun x => { x with facts := some f } } : State).rampUpdate r f
      else { s with queue := s.queue.alter r.tag fun x => { x with facts := some f } }) := by
    split
    · exact K.rampUpdate r f stored
    · exact stored
  have same : (if r.role = .center
      then ({ s with queue := s.queue.alter r.tag fun x => { x with facts := some f } } : State).rampUpdate r f
      else { s with queue := s.queue.alter r.tag fun x => { x with facts := some f } }).time = s.time := by
    split
    · exact rampUpdate_time _ r f
    · rfl
  have judged := K.judge r f.mean (by rw [same]; exact run) ramped
  have still : (s.takeFrame r f).time = s.time := (judge_time _ r f.mean).trans same
  refine ⟨?_, by rw [still]; exact run⟩
  refine K.queueSame judged _ (by rw [judge_time, same]; exact run) ?_ ?_ (.inr ?_)
  all_goals (dsimp only; split <;> first | rfl | exact Nat.zero_le 15)

theorem serveFrame (tag : Byte) (f : Facts) (run : s.time.domain = .run) (h : P s) : P (s.serveFrame tag f) := by
  unfold State.serveFrame
  split
  · exact K.count _ h
  · exact K.count _ h
  · split
    · exact K.sendOneS (K.count _ h) _ (by simpa using run)
    · rename_i r _
      split
      · exact K.settle _ _ (K.takeFrame r f run h).2 (K.takeFrame r f run h).1
      · exact K.count _ h

theorem serveHello (run : s.time.domain = .run) (h : P s) : P s.serveHello := by
  unfold State.serveHello
  split
  · exact K.count _ h
  · rename_i booting
    have ready := K.issuePending (s := { s with queue := { s.queue with module := .ready, bootTimer := .idle } }) run rfl
      (K.booted s run booting h)
    exact K.settleIfPresented _ _ (by simpa [State.bootReady] using run) ready
  · have failed := K.raiseFailures (by simpa using run) (K.flush run h)
    exact K.settleIfPresented _ _ (by simpa using run) (K.quietly failed _ _ _ _ _ _)

/-- A module failure with its request for a cycle (04 R64, R66). -/
theorem failing (h : P s) (run : s.time.domain = .run) (before : State) (why : SkipReason) :
    P (State.conclude why before s.raiseFailures.requestCycle) :=
  K.conclude _ _ (by simpa using run) (K.rails (K.raiseFailures run h) _ (by simpa using run) rfl)

theorem serveFault (code : Byte) (run : s.time.domain = .run) (h : P s) : P (s.serveFault code) := by
  have coded := K.queueSame h { s.queue with faultCode := some code } run rfl rfl (.inl rfl)
  have taken := K.failing coded run s .module
  unfold State.serveFault
  split
  · exact K.count _ h
  · exact taken
  · exact taken

theorem serveDelivered (tag : Byte) (run : s.time.domain = .run) (h : P s) : P (s.serveDelivered tag) := by
  have removed := K.remove (K.count .delivered h) tag (by simpa using run)
  unfold State.serveDelivered
  split
  · exact K.count _ h
  · exact K.count _ h
  · split
    · exact K.count _ h
    · dsimp only
      split
      · exact K.count _ h
      · exact K.settle _ _ run (K.queueFilter (K.count .delivered h) _ _ (by simpa using run) rfl rfl (.inl rfl))
      · exact K.settle _ _ run removed
      · exact K.settle _ _ run removed

theorem deliveryFailure (r : ShotRecord) (run : s.time.domain = .run) (h : P s) :
    P (State.settle .protection s (s.deliveryFailure r)) := by
  unfold State.deliveryFailure
  split
  · have held := K.alter h r.tag (fun x => { x with state := .held, failures := 1 }) run (fun _ => rfl)
      (fun _ engaged => absurd engaged (by simp [ShotRecord.engaged]))
    exact K.settle _ _ run (K.queueSame held _ run rfl rfl (.inl rfl))
  · have sent := K.sendOneS (K.count .lost h) (dropPacket r.tag) (by simpa using run)
    exact K.settle _ _ run (K.queueFilter sent _ _ (by simpa using run) rfl rfl (.inl rfl))

theorem serveUndelivered (tag : Byte) (run : s.time.domain = .run) (h : P s) : P (s.serveUndelivered tag) := by
  unfold State.serveUndelivered
  split
  · exact K.count _ h
  · exact K.count _ h
  · split
    · exact K.count _ h
    · split
      · exact K.deliveryFailure _ run h
      · exact h

theorem endRelay (run : s.time.domain = .run) (h : P s) : P s.endRelay := K.queueSame h _ run rfl rfl (.inl rfl)

theorem serveModuleRelay (payload : List Byte) (run : s.time.domain = .run) (h : P s) :
    P (s.serveModuleRelay payload) := by
  have passed : P (s.passRelay payload) := by
    unfold State.passRelay
    split
    · exact K.sendOneP h _ run
    · exact K.count _ h
  unfold State.serveModuleRelay
  split
  · exact K.count _ h
  · exact K.count _ h
  · split
    · exact K.settle _ _ (by simpa using run) (K.endRelay (by simpa using run) passed)
    · exact passed

/-! ### The recorder's notices (06) -/

theorem serveReady (run : s.time.domain = .run) (h : P s) : P s.serveReady := by
  have again : P s.readyAgain := by
    have moved := K.moveAllToHeld (K.store s s.store.abandon run storeSound_abandon h) .offered run
    exact K.statusThenOffer run (K.sessionSame moved _ run rfl)
  unfold State.serveReady
  split
  · exact K.count _ h
  · rename_i waking
    exact K.statusThenOffer run (K.session s _ run (.inr (.inr (.inl ⟨waking, rfl⟩))) h)
  · exact again
  · exact again

theorem serveSleep (run : s.time.domain = .run) (h : P s) : P s.serveSleep := by
  unfold State.serveSleep
  split
  · exact K.count _ h
  · exact K.count _ h
  · rename_i awake
    have back := K.sessionSame (K.moveAllToHeld h .offered run) { s.session with offerTimer := .idle } run rfl
    unfold State.sleepInAwake
    dsimp only
    split
    · exact K.sessionMoved back _ run (.inr (.inr (.inr ⟨awake, rfl⟩)))
    · exact K.conclude _ _ (by simpa using run) (K.endSession run back)
  · exact h

theorem claim (tag : Byte) (run : s.time.domain = .run) (h : P s) : P (State.claim tag s) := by
  unfold State.claim
  split
  · rename_i taken
    obtain ⟨-, -, r, oldest, rfl⟩ := (answersOffer_iff tag s).mp taken
    have answered := K.sendOneP h (answerPacket 0x03 .ok (some (r.tag.setWidth 32))) run
    have accepted := K.sessionSame answered { s.session with offerTimer := .idle, timeouts := 0 } run rfl
    have replied := K.sendOneS accepted (releasePacket r.tag) run
    refine K.settle _ _ run (K.queue _ _ run rfl (fun none => alter_nil none) (fun sound => ?_) replied)
    obtain ⟨-, -, -, one, failures⟩ := (queueSound_iff _).mp sound
    refine queueSound_engage r.tag .releasing rfl failures (fun q mem engaged => ?_) sound
    obtain ⟨present, offered⟩ := mem_of_oldest oldest
    rw [engaged_unique one mem present engaged (by simp [ShotRecord.engaged, offered])]
  · exact K.sendOneP h _ run

theorem waive (tag : Byte) (run : s.time.domain = .run) (h : P s) : P (State.waive tag s) := by
  unfold State.waive
  split
  · have answered := K.sendOneP h (answerPacket 0x04 .ok (some (tag.setWidth 32))) run
    have accepted := K.sessionSame answered { s.session with offerTimer := .idle, timeouts := 0 } run rfl
    have replied := K.sendOneS accepted (dropPacket tag) run
    exact K.settle _ _ run (K.remove (K.count .waived replied) tag run)
  · exact K.sendOneP h _ run

/-! ### Requests (10, 02, 08, 09) -/

theorem takeTrip (run : s.time.domain = .run) (h : P s) : P s.takeTrip :=
  K.quietly (K.meas h { s.meas with sagLatch := true, requests := { s.meas.requests with battery := true } } run) _ _ _ _ _ _

theorem putItem (i : Item) (v : Word32) (other : i ≠ .capacity) (h : P s) : P (s.putItem i v) :=
  K.settings s _ (.inl (put_capacity other _ v)) h

theorem afterClockSet (before : TimeBase) (h : P s) : P (State.afterClockSet before s) :=
  K.evaluateWake (K.enterSilently (K.rollover before h))

theorem applySet (i : Item) (v : Word32) (run : s.time.domain = .run) (range : i.inRange v = true)
    (accepted : s.refusesSet i v = false) (h : P s) : P (s.applySet i v) := by
  cases i with
  | clock =>
    exact K.concludeLoads _ (by simpa [State.afterClockSet] using run)
      (K.afterClockSet s.time (K.time s { s.time with calendar := v, phase := 0 } rfl (.inl (Nat.zero_lt_succ 999)) h))
  | dayOffset =>
    exact K.concludeLoads _ (by simpa [State.afterClockSet] using run)
      (K.afterClockSet s.time (K.time s { s.time with dayOffset := v.toInt } rfl (.inr rfl) h))
  | capacity =>
    simp only [State.refusesSet, decide_eq_false_iff_not, Nat.not_lt] at accepted
    simp only [Item.inRange, Bool.and_eq_true, decide_eq_true_eq] at range
    exact K.concludeLoads _ (by simpa using run)
      (K.evaluateWake (K.settings s (s.settings.put .capacity v) (.inr ⟨accepted, range.2⟩) h))
  | captureMode =>
    have moded := K.putItem .captureMode v (by decide) h
    exact K.conclude _ _ run (K.rails moded _ run rfl)
  | heaterMode => exact K.concludeLoads _ run (K.putItem .heaterMode v (by decide) h)
  | sagEnable =>
    have enabled := K.putItem .sagEnable v (by decide) h
    unfold State.applySet State.setSagEnable
    dsimp only
    split
    · exact K.arbitrate (K.concludeLoads _ run (K.takeTrip run enabled))
    · exact enabled
  | rampPosition => exact K.quiet s _ _ _ _ _ _ h
  | _ => exact K.putItem _ v (by decide) h

theorem serveSet (code : Byte) (v : Word32) (run : s.time.domain = .run) (h : P s) : P (s.serveSet code v) := by
  unfold State.serveSet
  split
  · exact K.answer h _ _ run
  · unfold State.setItem
    split
    · exact K.answer h _ _ run
    · rename_i inRange
      split
      · exact K.answer h _ _ run
      · rename_i accepted
        exact K.applySet _ v run (by simpa using inRange) (Bool.eq_false_iff.mpr accepted) (K.answer h _ _ run)

theorem serveClear (group : Byte) (run : s.time.domain = .run) (h : P s) : P (s.serveClear group) := by
  have answered := K.answer h 0x14 .ok run
  unfold State.serveClear
  split
  · exact K.quietly answered _ _ _ _ _ _
  · exact K.quietly answered _ _ _ _ _ _
  · have cleared := K.queueSame answered { s.queue with failures := 0 } run rfl rfl (.inr (Nat.zero_le _))
    have unlatched := K.meas cleared { s.meas with sagLatch := false } run
    exact K.conclude _ _ run (K.rails unlatched { s.rails with moduleLatch := false } run rfl)
  · exact K.answer h _ _ run

theorem serveQuery (run : s.time.domain = .run) (h : P s) : P s.serveQuery :=
  K.quiet _ _ _ _ _ _ _ (K.sendP _ _ run (K.answer h 0x17 .ok run))

theorem serveStart (run : s.time.domain = .run) (h : P s) : P s.serveStart := by
  unfold State.serveStart
  split
  · exact K.answer h _ _ run
  · have committed := K.makeCommit [.nextShot, .nextWindow] h
    have still : (s.makeCommit [.nextShot, .nextWindow]).time.domain = .run := by simpa using run
    dsimp only
    split
    · have entered : P ((s.makeCommit [.nextShot, .nextWindow]).answer 0x12 .ok).enterRunning :=
        K.enterSilently (K.sched _ _ (.inr (.inl rfl)) (K.answer committed 0x12 .ok still))
      exact K.settle _ _ (by simpa [State.enterRunning] using still)
        (K.present (by simpa [State.enterRunning] using still) (K.scheduledShotDue entered))
    · exact K.conclude _ _ (by simpa using still) (K.answer committed _ _ still)

theorem serveStop (run : s.time.domain = .run) (h : P s) : P s.serveStop := by
  have answered := K.answer h 0x13 .ok run
  unfold State.serveStop
  dsimp only
  split
  · exact answered
  · split
    · exact K.settle _ _ (by simpa using run)
        (K.present (by simpa using run) (K.sched _ _ (.inr (.inl rfl)) (K.endPending .stopped answered)))
    · exact K.settle _ _ run (K.present run (K.sched _ _ (.inr (.inl rfl)) answered))

theorem serveShoot (rung : Option Nat) (run : s.time.domain = .run) (h : P s) : P (s.serveShoot rung) := by
  have answered := K.answer h 0x15 (s.shootAnswer rung) run
  unfold State.serveShoot
  dsimp only
  split
  · rename_i ok
    unfold State.shoot
    split
    · rename_i ready
      have free : ¬ (s.queue.module = .ready ∧ s.freeSlots = 0) := by
        intro full
        simp only [State.shootAnswer, full, and_self, if_true] at ok
        split_ifs at ok
      refine K.settle _ _ (by simpa using run) (K.issue _ _ (by simpa using run) ready (queueSound_issue ?_) answered)
      have one : (State.manualSpecs rung (s.answer 0x15 (s.shootAnswer rung))).length = 1 := rfl
      have slots : (s.answer 0x15 (s.shootAnswer rung)).freeSlots = s.freeSlots := rfl
      rw [one, slots]
      exact Nat.pos_of_ne_zero fun none => free ⟨ready, none⟩
    · exact K.settle _ _ run (K.fillSlot _ run answered)
  · exact answered

theorem serveMeasure (channels : Byte) (run : s.time.domain = .run) (h : P s) : P (s.serveMeasure channels) := by
  unfold State.serveMeasure
  split
  · exact K.answer h _ _ run
  · exact K.arbitrate (K.meas (K.answer h 0x16 .ok run) _ run)

theorem serveRelay (payload : List Byte) (run : s.time.domain = .run) (h : P s) : P (s.serveRelay payload) := by
  have answered := K.answer h 0x18 s.relayAnswer run
  unfold State.serveRelay
  dsimp only
  split
  · exact K.settle _ _ run (K.queueSame (K.sendOneS answered (relayPacket payload) run) _ run rfl rfl (.inl rfl))
  · exact answered

theorem abandonLoad (run : s.time.domain = .run) (h : P s) : P s.abandonLoad :=
  K.store s _ run storeSound_abandon h

theorem serveOpen (code : Byte) (run : s.time.domain = .run) (h : P s) : P (s.serveOpen code) := by
  unfold State.serveOpen
  split
  · exact K.abandonLoad run (K.answer h _ _ run)
  · split
    · exact K.answer h _ _ run
    · rename_i t _
      split
      · exact K.answer h _ _ run
      · rename_i free
        refine K.store _ _ run (storeSound_emptyStaged (fun c pending named => free ?_) _ ?_) (K.answer h _ _ run)
        · have commit : s.store.commit = some c := pending
          rw [commit]
          simpa using named
        · rintro _ ⟨⟩; rfl

theorem serveRow (table number : Byte) (fields : List Byte) (run : s.time.domain = .run) (h : P s) :
    P (s.serveRow table number fields) := by
  unfold State.serveRow
  split
  · exact K.answer h _ _ run
  · rename_i tr load
    split
    · exact K.abandonLoad run (K.answer h _ _ run)
    · split
      · exact K.abandonLoad run (K.answer h _ _ run)
      · rename_i st stored
        exact K.store _ _ run (storeSound_storeRow load stored rfl) (K.answer h _ _ run)

theorem serveClose (count : Byte) (check : Word16) (run : s.time.domain = .run) (h : P s) :
    P (s.serveClose count check) := by
  unfold State.serveClose
  split
  · exact K.answer h _ _ run
  · split
    · rename_i good
      simp only [State.closeOk, Bool.and_eq_true] at good
      exact K.store _ _ run (storeSound_seal check good.2) (K.answer h _ _ run)
    · exact K.abandonLoad run (K.answer h _ _ run)

theorem takeCommit (c : PendingCommit) (run : s.time.domain = .run) (load : s.store.load = none)
    (commit : s.store.commit = none) (staged : ∀ t ∈ c.tables, s.store.stagedValid t = true) (h : P s) :
    P (s.takeCommit c) := by
  unfold State.takeCommit
  split
  · exact K.swap _ (.inr ⟨run, load, commit, staged⟩) h
  · exact K.store s _ run (storeSound_pend staged) h

theorem serveCommit (tables point : Byte) (run : s.time.domain = .run) (h : P s) : P (s.serveCommit tables point) := by
  unfold State.serveCommit
  split
  · exact K.answer h _ _ run
  · rename_i c _
    have answered := K.answer h 0x1C (s.commitAnswer c) run
    dsimp only
    split
    · rename_i ok
      obtain ⟨commit, load, staged, -⟩ := commitAnswer_ok ok
      have taken := K.takeCommit (s := s.answer 0x1C (s.commitAnswer c)) c run load commit staged answered
      refine K.conclude _ _ ?_ taken
      unfold State.takeCommit
      split
      · simpa using run
      · exact run
    · exact answered

/-! ### Every packet command -/

theorem body (c : Instr) (run : s.time.domain = .run) (h : P s) : P (bodyOf c s) := by
  cases c with
  | hello => exact K.serveHello run h
  | frame tag _ _ _ _ _ => exact K.serveFrame tag _ run h
  | delivered tag => exact K.serveDelivered tag run h
  | undelivered tag => exact K.serveUndelivered tag run h
  | fault code => exact K.serveFault code run h
  | moduleRelay payload => exact K.serveModuleRelay payload run h
  | ready => exact K.serveReady run h
  | sleep => exact K.serveSleep run h
  | claim tag => exact K.claim tag run h
  | waive tag => exact K.waive tag run h
  | setClock v => exact K.serveSet 0 v run h
  | setDayOffset v => exact K.serveSet 1 v run h
  | setCapacity v => exact K.serveSet 2 v run h
  | setCaptureMode v => exact K.serveSet 16 v run h
  | setHeaterMode v => exact K.serveSet 17 v run h
  | setSagThreshold v => exact K.serveSet 20 v run h
  | setSagEnable v => exact K.serveSet 21 v run h
  | setRampPosition v => exact K.serveSet 26 v run h
  | set item v => exact K.serveSet item v run h
  | get item =>
    change P (s.serveGet item)
    unfold State.serveGet
    split <;> exact K.sendOneP h _ run
  | clearCounters => exact K.serveClear 0 run h
  | clearFlags => exact K.serveClear 1 run h
  | clearLatch => exact K.serveClear 2 run h
  | clear group => exact K.serveClear group run h
  | query => exact K.serveQuery run h
  | start => exact K.serveStart run h
  | stop => exact K.serveStop run h
  | shoot rung => exact K.serveShoot _ run h
  | measure channels => exact K.serveMeasure channels run h
  | relay payload => exact K.serveRelay payload run h
  | openTable table => exact K.serveOpen table run h
  | row table number fields => exact K.serveRow table number fields run h
  | close count check => exact K.serveClose count check run h
  | commit tables point => exact K.serveCommit tables point run h
  | _ => exact h

theorem taking (l : Link) (c : Instr) (run : s.time.domain = .run) (h : P s) : P (taking l c s) := by
  unfold Machine.taking
  split
  · exact K.body c run h
  · exact K.serveReady run h
  · exact K.serveSleep run h
  · split
    · exact K.body c run h
    · exact K.count _ h

end Kept
end Sys2Proof.Machine
end

section
/-! PROOF. What survives every elementary change survives every event but those of the link ports. -/

namespace Sys2Proof.Machine

/-! ### A STROBE rise (04 R71) -/

theorem stampFirst_tags (now : Stamp) (records : List ShotRecord) :
    (stampFirst now records).map (·.tag) = records.map (·.tag) := by
  induction records with
  | nil => rfl
  | cons r rs ih =>
    unfold stampFirst
    split
    · rfl
    · rw [List.map_cons, List.map_cons, ih]

theorem stampFirst_engaged (now : Stamp) (records : List ShotRecord) :
    (stampFirst now records).countP ShotRecord.engaged = records.countP ShotRecord.engaged := by
  induction records with
  | nil => rfl
  | cons r rs ih =>
    unfold stampFirst
    split
    · rfl
    · rw [List.countP_cons, List.countP_cons, ih]

/-- The events of the link ports: bytes, packets, gap timeouts and completed transmissions (11 R192, R194). -/
def isLinkEvent : Instr → Bool
  | .packetReceived _ _ _ _ => true
  | .linkGapTimeout _ => true
  | .transmissionComplete _ => true
  | .byteReceived _ _ _ => true
  | _ => false

namespace KeptBySupply

variable {P : State → Prop} (K : KeptBySupply P) {s : State}
include K

theorem schedSame (h : P s) (x : Scheduler) (same : x.slot = s.sched.slot) : P { s with sched := x } :=
  K.sched s x (.inr (.inl same)) h

/-! ### Supply domains (01, section 1.5) -/

theorem startMain (run : s.time.domain = .run) (h : P s) : P s.startMain := by
  have rested : P s.startRest := K.sessionSame h _ run rfl
  have heated : P s.startRest.startHeaterPeriod := K.rails rested _ run rfl
  exact K.meas heated _ run

theorem finishStart (before : State) (run : s.time.domain = .run) (h : P s) : P (State.finishStart before s) :=
  K.arbitrate (K.settle _ _ (by simpa using run) (K.present run h))

/-- The values of a release, in the domain that it enters. -/
theorem warmValues {d : Domain} (h : P ((s.endPending .power).enterDomain d)) : P (s.warmValues d) :=
  K.schedSame (K.quietly (K.forget _ h) _ _ _ _ _ _) _ rfl

theorem warmEntry (h : P s) : P s.warmEntry := by
  unfold State.warmEntry
  split
  · exact K.takeDueShot _ _ (K.enterSilently h)
  · exact h

theorem warmReset (held : s.time.domain = .reset) (h : P s) :
    P (if s.pins.supok then s.releaseToRun else s.releaseToPowerBad) := by
  have ended := K.endPending .power h
  split
  · have released := K.warmValues (d := .run) (K.release _ (by simp [held]) ended)
    have run : (s.warmValues .run).time.domain = .run := by simp [State.warmValues]
    have started := K.warmEntry (K.startMain run released)
    refine K.finishStart _ ?_ started
    unfold State.warmEntry
    split <;> simpa using run
  · exact K.warmEntry (K.warmValues (K.stayHeld _ (by simpa using held) (endPending_slot s _) ended))

theorem supokSeen (level : Bool) (h : P s) : P (s.supokSeen level) := by
  have seen : P (s.seeSupok level) := K.quiet s _ _ _ _ _ _ h
  unfold State.supokSeen
  split
  · exact h
  · dsimp only
    split
    · exact K.enterPowerBad _ seen
    · have bad : s.time.domain = .powerBad := by assumption
      have released := K.release _ (by simp [bad]) seen
      exact K.finishStart _ (by simp) (K.startMain rfl released)
    · exact seen

/-! ### Inputs (02 R27, 04 R71, 06 R108, 08 R157) -/

theorem trigActive (h : P s) : P s.trigActive := by
  have seen : P (s.seeTrig false) := K.quiet s _ _ _ _ _ _ h
  unfold State.trigActive
  dsimp only
  split
  · have taken := K.takeDueShot .event (s.seeTrig false).suspended seen
    have handled := K.schedSame taken { (State.takeDueShot .event (s.seeTrig false).suspended (s.seeTrig false)).sched with
      refractory := Timer.startSeconds
        (State.takeDueShot .event (s.seeTrig false).suspended (s.seeTrig false)).settings.refractory } rfl
    split
    · rename_i run
      exact K.settleIfPresented _ _ (by simpa using run) handled
    · exact handled
  · exact seen

theorem serviceActive (h : P s) : P s.serviceActive := by
  have seen : P (s.seeService false) := K.quiet s _ _ _ _ _ _ h
  unfold State.serviceActive
  dsimp only
  split
  · rename_i wakes
    simp only [State.serviceWakes, Bool.and_eq_true, decide_eq_true_eq] at wakes
    obtain ⟨⟨⟨run, off⟩, -⟩, -⟩ := wakes
    exact K.concludeLoads _ (by simpa using run)
      (K.sessionMoved (K.count .serviceWakes seen) _ run (.inr (.inl ⟨off, rfl⟩)))
  · exact seen

theorem strobeRise (run : s.time.domain = .run) (h : P s) : P s.strobeRise := by
  unfold State.strobeRise
  split
  · refine K.queue s _ run rfl (fun none => by simp [none, stampFirst]) (fun sound => ?_) h
    obtain ⟨-, -, -, one, failures⟩ := (queueSound_iff s).mp sound
    exact queueSound_of_fewer sound failures (by rw [stampFirst_tags]) (by rw [stampFirst_engaged]; exact one)
  · exact K.count _ h

theorem sampleComparator (vbat : Nat) (h : P s) : P (s.sampleComparator vbat) := by
  unfold State.sampleComparator
  split
  · rename_i run
    have seen : P (s.seeComparator (comparatorLevel s.settings.sagThreshold s.meas.tripped vbat)) := K.meas h _ run
    dsimp only
    split
    · exact K.arbitrate (K.concludeLoads _ (by simpa using run) (K.takeTrip (by simpa using run) seen))
    · exact seen
  · exact h

/-! ### Timeouts (04, 06, 08, 07 R137) -/

theorem noShow (run : s.time.domain = .run) (h : P s) : P s.noShow := by
  have flagged : P (s.count .noShows).flagNoShow := K.quietly (K.count .noShows h) _ _ _ _ _ _
  exact K.conclude _ _ (by simpa using run) (K.endSession (by simpa using run) flagged)

theorem offerTimedOut (run : s.time.domain = .run) (h : P s) : P s.offerTimedOut := by
  have back := K.sessionSame (K.moveAllToHeld h .offered run)
    { s.session with timeouts := s.session.timeouts + 1, offerTimer := .idle } run rfl
  have flagged := K.quietly back s.counters { s.flags with offerTimeout := true } s.inputs s.ramp s.retention s.pins
  unfold State.offerTimedOut
  dsimp only
  split
  · exact K.settle _ _ (by simpa using run) (K.forceSleep run flagged)
  · exact K.settle _ _ run flagged

theorem deadlineExpired (r : ShotRecord) (run : s.time.domain = .run) (h : P s) : P (s.deadlineExpired r) := by
  have dropped := K.count .lost (K.sendOneS h (dropPacket r.tag) run)
  have removed := K.queueFilter dropped ((s.queue.remove r.tag).watch s.settings.exposureAllowance) _ run rfl rfl (.inl rfl)
  exact K.settle _ _ (by simpa using run) (K.raiseFailures run removed)

theorem conversionComplete (c : Channel) (q : Int) (run : s.time.domain = .run) (h : P s) :
    P (s.conversionComplete c q) := by
  have stored : P (s.storeResult c q) := K.meas h _ run
  have handed : P ((s.storeResult c q).handOnResult c) ∧ ((s.storeResult c q).handOnResult c).time.domain = .run := by
    cases c with
    | battery =>
      change P (s.storeResult .battery q).judgeBattery ∧ (s.storeResult .battery q).judgeBattery.time.domain = _
      unfold State.judgeBattery
      split
      · exact ⟨stored, run⟩
      · exact ⟨K.meas stored _ run, run⟩
    | temperature => exact ⟨K.rails stored _ run rfl, run⟩
    | aux => exact ⟨stored, run⟩
  refine K.arbitrate ?_
  unfold State.concludeResult
  split
  · exact handed.1
  · exact K.conclude _ _ handed.2 handed.1

theorem blankingClosed (run : s.time.domain = .run) (h : P s) : P s.blankingClosed := by
  have closed : P s.closeBlanking := K.meas h _ run
  refine K.arbitrate ?_
  split
  · exact K.concludeLoads _ run (K.takeTrip run closed)
  · exact closed

/-! ### Every event -/

theorem event {c : Instr} (noPacket : packetOf c = none) (noLink : isLinkEvent c = false) (h : P s) :
    ∃ t, exec c s = .next t ∧ P t := by
  cases c with
  | coldStart => exact ⟨_, rfl, K.cold s h⟩
  | resetEntry =>
    refine ⟨_, rfl, ?_⟩
    split
    · exact h
    · exact K.enterReset s h
  | warmReset =>
    refine ⟨_, rfl, ?_⟩
    split
    · rename_i held
      exact K.warmReset held h
    · exact h
  | powerBadEntry => exact ⟨_, rfl, K.supokSeen false h⟩
  | powerBadReturn => exact ⟨_, rfl, K.supokSeen true h⟩
  | supokChangeInReset =>
    refine ⟨_, rfl, ?_⟩
    split
    · exact K.supokSeen _ h
    · exact h
  | secondTick => exact ⟨_, rfl, K.secondTick h⟩
  | millisecondEdge => exact ⟨_, rfl, K.millisecond h⟩
  | refractoryExpiry =>
    refine ⟨_, rfl, ?_⟩
    split
    · exact K.schedSame h _ rfl
    · exact h
  | trigActive =>
    refine ⟨_, rfl, ?_⟩
    split
    · exact K.trigActive h
    · exact h
  | serviceActive =>
    refine ⟨_, rfl, ?_⟩
    split
    · exact K.serviceActive h
    · exact h
  | trigOrServiceHigh pin =>
    refine ⟨_, rfl, ?_⟩
    split <;> split
    · exact h
    · exact K.quiet s _ _ _ _ _ _ h
    · exact h
    · exact K.quiet s _ _ _ _ _ _ h
  | strobeRise =>
    refine ⟨_, rfl, ?_⟩
    split
    · rename_i run
      exact K.strobeRise run h
    · exact h
  | sagTrip vbat => exact ⟨_, rfl, K.sampleComparator vbat h⟩
  | comparatorLevelChange vbat => exact ⟨_, rfl, K.sampleComparator vbat h⟩
  | bootTimerExpiry =>
    refine ⟨_, rfl, ?_⟩
    split
    · rename_i due
      exact K.failing (K.queueSame h { s.queue with bootTimer := .idle } due.1 rfl rfl (.inl rfl)) due.1 s .module
    · exact h
  | exposureDeadlineExpiry =>
    refine ⟨_, rfl, ?_⟩
    split
    · rename_i due
      split
      · exact K.deadlineExpired _ due.1 h
      · exact h
    · exact h
  | deliveryTimerExpiry =>
    refine ⟨_, rfl, ?_⟩
    split
    · rename_i due
      split
      · exact K.deliveryFailure _ due.1 h
      · exact h
    · exact h
  | relayReplyLimitExpiry =>
    refine ⟨_, rfl, ?_⟩
    split
    · rename_i due
      exact K.settle _ _ due.1 (K.endRelay due.1 h)
    · exact h
  | readyTimerExpiry =>
    refine ⟨_, rfl, ?_⟩
    split
    · rename_i due
      exact K.noShow due.1 h
    · exact h
  | awakeTimerExpiry =>
    refine ⟨_, rfl, ?_⟩
    split
    · rename_i due
      exact K.conclude _ _ (by simpa using due.1) (K.forceSleep due.1 h)
    · exact h
  | offerTimeout =>
    refine ⟨_, rfl, ?_⟩
    split
    · rename_i due
      exact K.offerTimedOut due.1 h
    · exact h
  | restTimerExpiry =>
    refine ⟨_, rfl, ?_⟩
    split
    · rename_i due
      exact K.concludeLoads _ (by simpa using due.1) (K.evaluateWake (K.sessionSame h _ due.1 rfl))
    · exact h
  | measurePeriodExpiry =>
    refine ⟨_, rfl, ?_⟩
    split
    · rename_i due
      have requested := K.meas h { s.meas with requests := s.meas.requests.merge Requests.periodic } due.1
      exact K.arbitrate (K.meas requested _ due.1)
    · exact h
  | conversionComplete q =>
    refine ⟨_, rfl, ?_⟩
    split
    · rename_i due
      split
      · exact K.conversionComplete _ q due.1 h
      · exact h
    · exact h
  | blankingWindowExpiry =>
    refine ⟨_, rfl, ?_⟩
    split
    · rename_i due
      exact K.blankingClosed due.1 h
    · exact h
  | heaterPeriodExpiry =>
    refine ⟨_, rfl, ?_⟩
    split
    · rename_i due
      exact K.concludeLoads _ due.1 (K.rails h _ due.1 rfl)
    · exact h
  | heaterOnPhaseExpiry =>
    refine ⟨_, rfl, ?_⟩
    split
    · rename_i due
      exact K.concludeLoads _ due.1 (K.rails h _ due.1 rfl)
    · exact h
  | packetReceived _ _ _ _ | linkGapTimeout _ | transmissionComplete _ | byteReceived _ _ _ => cases noLink
  | _ => cases noPacket

end KeptBySupply
end Sys2Proof.Machine
end

section
/-! PROOF. The link ports' events (11 R192 to R194), and what survives every step: bytes and packets arriving, the serving of
the receive queues, and completed transmissions. -/

namespace Sys2Proof.Machine

/-- Serving a head leaves the state, or takes the packet at the head in the state in which it meets its block. -/
theorem handHead_cases (l : Link) (s : State) :
    s.handHead l = s ∨ ∃ p c x, packetOf c = some (l, p) ∧ Handed l p s x ∧ admits l c s = true ∧
      s.handHead l = taking l c x := by
  unfold State.handHead
  split
  · exact .inl rfl
  · rename_i p rest rx
    split
    · exact .inl rfl
    · rename_i c named
      obtain ⟨carries, -⟩ := packetOf_commandOf named
      rw [packetStep_exec carries, exec_packet carries]
      by_cases run : s.time.domain = .run
      · cases free : admits l c s with
        | true =>
          have handed : Handed l p s _ := ⟨run, .inr ⟨rest, rx, rfl⟩⟩
          exact .inr ⟨p, c, _, carries, handed, free, by rw [handOver_handed _ _ handed free]; rfl⟩
        | false => exact .inl (by simp [stateAfter, State.handOver, run, rx, free])
      · exact .inl (by rw [handOver_held _ _ run]; rfl)

/-- A hand-over shortens one receive queue, or finds it empty, and changes nothing else. -/
theorem handed_rx {l : Link} {p : Packet} {s x : State} (h : Handed l p s x) :
    ∃ rx, x = s.setPort l { s.port l with rx := rx } ∧ ((s.port l).rx = p :: rx ∨ (s.port l).rx = [] ∧ rx = []) := by
  obtain ⟨-, ⟨empty, rfl⟩ | ⟨rest, head, rfl⟩⟩ := h
  · refine ⟨[], ?_, .inr ⟨empty, rfl⟩⟩
    rw [← empty]
    cases l <;> rfl
  · exact ⟨rest, rfl, .inl head⟩

theorem handed_time {l : Link} {p : Packet} {s x : State} (h : Handed l p s x) : x.time = s.time := by
  obtain ⟨rx, rfl, -⟩ := handed_rx h
  simp

/-! ### What the ports' events do, in four changes -/

/-- A property that the ports' events keep: discards are counted and flagged, the receiver moves, an accepted packet is
received and its queue served, and a transmission is completed and the queue served. -/
structure KeptByLinks (P : State → Prop) : Prop where
  mark : ∀ (s : State) counters flags, P s → P { s with counters := counters, flags := flags }
  receiver : ∀ (s : State) l receiver gap, s.time.domain = .run → P s →
    P (s.setPort l { s.port l with receiver := receiver, gap := gap })
  received : ∀ (s : State) l p, s.time.domain = .run → p.accepted l = true → P s → P ((s.arrive l p).servePort l)
  completed : ∀ (s : State) l, s.time.domain = .run → P s → P ((s.transmitted l).servePort l)

namespace KeptByLinks

variable {P : State → Prop} (K : KeptByLinks P) {s : State}
include K

theorem discardBad (l : Link) (run : s.time.domain = .run) (h : P s) : P (s.discardBad l) :=
  K.mark _ _ _ (K.mark _ _ _ (K.receiver s l .hunting .idle run h))

theorem judgePacket (l : Link) (p : Packet) (check : Byte) (run : s.time.domain = .run) (h : P s) :
    P (s.judgePacket l p check) := by
  unfold State.judgePacket
  split
  · rename_i good
    exact K.received _ l p (by simpa using run) good.2 (K.receiver s l .hunting .idle run h)
  · exact K.discardBad l run h

theorem takeByte (l : Link) (b : Byte) (stopBit : Bool) (run : s.time.domain = .run) (h : P s) :
    P (s.takeByte l b stopBit) := by
  unfold State.takeByte
  split
  · split
    · exact K.receiver s l _ _ run h
    · exact h
  · split
    · unfold State.assembleByte
      split
      · exact K.receiver s l _ _ run h
      · exact K.discardBad l run h
      · exact K.judgePacket l _ _ run h
    · exact K.discardBad l run h

end KeptByLinks

/-! ### Hand-overs -/

/-- A property that hand-overs keep: the packet arrives, leaves its queue, or is taken; a packet leaves its transmit line.
`Q` says which packets a receive queue may take. -/
structure KeptByHandOver (Q : Link → Packet → Prop) (P : State → Prop) : Prop where
  mark : ∀ (s : State) counters flags, P s → P { s with counters := counters, flags := flags }
  receiver : ∀ (s : State) l receiver gap, s.time.domain = .run → P s →
    P (s.setPort l { s.port l with receiver := receiver, gap := gap })
  arrive : ∀ (s : State) l p, s.time.domain = .run → Q l p → P s → P (s.arrive l p)
  handed : ∀ (s x : State) l p, Handed l p s x → P s → P x
  taking : ∀ (s : State) l c, s.time.domain = .run → P s → P (taking l c s)
  sent : ∀ (s : State) l p rest, s.time.domain = .run → (s.port l).tx = p :: rest → P s →
    P (s.setPort l { s.port l with tx := rest })
  offerSent : ∀ s : State, s.time.domain = .run → P s → P { s with session := { s.session with offerSent := true } }
  accepts : ∀ l p, p.accepted l = true → Q l p

namespace KeptByHandOver

variable {Q : Link → Packet → Prop} {P : State → Prop} (K : KeptByHandOver Q P) {s : State}
include K

theorem handHead (l : Link) (h : P s) : P (s.handHead l) := by
  obtain same | ⟨p, c, x, -, handed, -, taken⟩ := handHead_cases l s
  · rw [same]; exact h
  · rw [taken]
    exact K.taking x l c (by rw [handed_time handed]; exact handed.1) (K.handed s x l p handed h)

theorem handHeads (l : Link) (n : Nat) (h : P s) : P (s.handHeads l n) := by
  induction n generalizing s with
  | zero => exact h
  | succ n ih => exact ih (K.handHead l h)

theorem servePort (l : Link) (h : P s) : P (s.servePort l) := K.handHeads l _ h

theorem transmitted (l : Link) (run : s.time.domain = .run) (h : P s) : P (s.transmitted l) := by
  unfold State.transmitted
  split
  · exact h
  · rename_i p rest tx
    have left := K.sent s l p rest run tx h
    dsimp only
    split
    · exact left
    · split
      · exact K.offerSent _ (by simpa using run) left
      · exact left

/-- A packet command keeps what hand-overs keep. -/
theorem packet {c : Instr} {l : Link} {p : Packet} (carries : packetOf c = some (l, p)) (may : Q l p) (h : P s) :
    ∃ t, exec c s = .next t ∧ P t := by
  refine ⟨_, exec_packet carries s, ?_⟩
  obtain same | ⟨run, arrives⟩ | ⟨x, handed, -, taken⟩ := handOver_cases l p (admits l c) (Machine.taking l c) s
  · rw [same]; exact h
  · rw [arrives]; exact K.arrive s l p run may h
  · rw [taken]
    exact K.taking x l c (by rw [handed_time handed]; exact handed.1) (K.handed s x l p handed h)

theorem links : KeptByLinks P where
  mark := K.mark
  receiver := K.receiver
  received s l p run accepted h := K.servePort l (K.arrive s l p run (K.accepts l p accepted) h)
  completed _ l run h := K.servePort l (K.transmitted l run h)

end KeptByHandOver

/-- A property that every elementary change keeps, and the moves of packets at the ports. -/
structure KeptByPorts (Q : Link → Packet → Prop) (P : State → Prop) : Prop extends Kept P where
  receiver : ∀ (s : State) l receiver gap, s.time.domain = .run → P s →
    P (s.setPort l { s.port l with receiver := receiver, gap := gap })
  arrive : ∀ (s : State) l p, s.time.domain = .run → Q l p → P s → P (s.arrive l p)
  handed : ∀ (s x : State) l p, Handed l p s x → P s → P x
  sent : ∀ (s : State) l p rest, s.time.domain = .run → (s.port l).tx = p :: rest → P s →
    P (s.setPort l { s.port l with tx := rest })
  accepts : ∀ l p, p.accepted l = true → Q l p

theorem KeptByPorts.handOver {Q : Link → Packet → Prop} {P : State → Prop} (K : KeptByPorts Q P) : KeptByHandOver Q P where
  mark _ _ _ h := K.quietly h _ _ _ _ _ _
  receiver := K.receiver
  arrive := K.arrive
  handed := K.handed
  taking _ l c run h := K.toKept.taking l c run h
  sent := K.sent
  offerSent _ run h := K.sessionSame h _ run rfl
  accepts := K.accepts

/-! ### RUN lasts through a packet -/

theorem driveCapture_run {s : State} (why : SkipReason) (run : s.time.domain = .run) :
    (s.driveCapture why).time.domain = .run := by simpa using run

/-- RUN is left by the supply alone (01 R11). -/
theorem keptByPorts_run : KeptByPorts (fun _ _ => True) (fun s => s.time.domain = .run) where
  quiet _ _ _ _ _ _ _ h := h
  sched _ _ _ h := h
  time _ _ same _ h := same.trans h
  wakes _ _ h := h
  age _ _ h := h
  inRun _ _ _ _ _ h := h
  unlatch _ h := h
  settings _ _ _ h := h
  sendP _ _ _ h := h
  sendS _ _ _ h := h
  session _ _ _ _ h := h
  leaveSession _ _ h := h
  queue _ _ _ _ _ _ h := h
  forget _ h := h
  booted _ _ _ h := h
  issue _ _ _ _ _ h := h
  driveCapture _ why run _ := driveCapture_run why run
  exchange _ _ _ h := by simpa using h
  store _ _ _ _ h := h
  receiver _ _ _ _ _ h := by simpa using h
  arrive _ _ _ _ _ h := by simpa using h
  handed _ _ _ _ handed h := by rw [handed_time handed]; exact h
  sent _ _ _ _ _ _ h := by simpa using h
  accepts _ _ _ := trivial

namespace KeptByLinks

variable {P : State → Prop} (K : KeptByLinks P) {s : State}
include K

theorem takeBytes (l : Link) (bs : List Byte) (run : s.time.domain = .run) (h : P s) : P (s.takeBytes l bs) := by
  unfold State.takeBytes
  induction bs generalizing s with
  | nil => exact h
  | cons b bs ih => exact ih (keptByPorts_run.handOver.links.takeByte l b true run run) (K.takeByte l b true run h)

/-- The ports' events keep what these changes keep. -/
theorem linkEvent {c : Instr} (link : isLinkEvent c = true) (h : P s) : ∃ t, exec c s = .next t ∧ P t := by
  cases c with
  | packetReceived l kind payload check =>
    refine ⟨_, rfl, ?_⟩
    split
    · rename_i run
      exact K.takeBytes l _ run h
    · exact h
  | linkGapTimeout l =>
    refine ⟨_, rfl, ?_⟩
    split
    · rename_i due
      exact K.discardBad l due.1 h
    · exact h
  | transmissionComplete l =>
    refine ⟨_, rfl, ?_⟩
    split
    · rename_i run
      exact K.completed s l run h
    · exact h
  | byteReceived l b stopBit =>
    refine ⟨_, rfl, ?_⟩
    split
    · rename_i run
      exact K.takeByte l b stopBit run h
    · exact h
  | _ => cases link

end KeptByLinks

/-! ### Every command -/

/-- A step keeps what the command at the front keeps, unless it reads the queue of commands. -/
theorem step_keeps {P : State → Prop} {s t : State} (insensitive : ∀ (s : State) q, P s → P { s with pending := q })
    (exec_keeps : ∀ c, s.pending.head? = some c → ∀ x : State, P x → ∃ y, exec c x = .next y ∧ P y) (h : P s)
    (stepped : step s = .next t) : P t := by
  unfold step at stepped
  split at stepped
  · cases stepped; exact h
  · rename_i c rest queued
    obtain ⟨u, next, kept⟩ := exec_keeps c (by rw [queued]; rfl) _ (insensitive s rest h)
    rw [next] at stepped
    cases stepped
    exact kept

/-- What the commands of every kind keep: the ports' work and the changes of the supply domain. -/
structure KeptByAll (Q : Link → Packet → Prop) (P : State → Prop) : Prop extends KeptByPorts Q P, KeptBySupply P

namespace KeptByAll

variable {Q : Link → Packet → Prop} {P : State → Prop} (K : KeptByAll Q P) {s : State}
include K

/-- What survives every elementary change survives every command whose packet, if any, a receive queue may take. -/
theorem exec {c : Instr} (may : ∀ l p, packetOf c = some (l, p) → Q l p) (h : P s) :
    ∃ t, Machine.exec c s = .next t ∧ P t := by
  cases carries : packetOf c with
  | some lp => exact K.toKeptByPorts.handOver.packet carries (may lp.1 lp.2 carries) h
  | none =>
    cases link : isLinkEvent c with
    | true => exact K.toKeptByPorts.handOver.links.linkEvent link h
    | false => exact K.event carries link h

theorem step (insensitive : ∀ (s : State) q, P s → P { s with pending := q })
    (may : ∀ c l p, s.pending.head? = some c → packetOf c = some (l, p) → Q l p) {t : State} (h : P s)
    (stepped : Machine.step s = .next t) : P t :=
  step_keeps insensitive (fun c front _ hx => K.exec (may c · · front) hx) h stepped

end KeptByAll

end Sys2Proof.Machine
end

section
/-! PROOF. The Table Store stays sound (09 R165, R166, R173, R174): each elementary change of it does by its own lemma, and
nothing else touches it. -/

namespace Sys2Proof.Machine

/-- A pending commit cancelled, the tables left as they are (09 R176). -/
theorem storeSound_cancel {s : State} (sound : StoreSound s) :
    StoreSound { s with store := { s.store with commit := none } } := by
  obtain ⟨pairs, loading, -⟩ := (storeSound_iff s).mp sound
  exact (storeSound_iff _).mpr ⟨pairs, loading, nofun⟩

/-- At cold start all banks are EMPTY. -/
theorem storeSound_reset : StoreSound State.reset := by
  refine (storeSound_iff _).mpr ⟨fun t => ?_, nofun, nofun⟩
  cases t <;> exact ⟨nofun, nofun⟩

theorem keptByAll_storeSound : KeptByAll (fun _ _ => True) StoreSound where
  quiet _ _ _ _ _ _ _ h := h
  sched _ _ _ h := h
  time _ _ _ _ h := h
  wakes _ _ h := h
  age _ _ h := h
  inRun _ _ _ _ _ h := h
  unlatch _ h := h
  settings _ _ _ h := h
  sendP _ _ _ h := h
  sendS _ _ _ h := h
  session _ _ _ _ h := h
  leaveSession _ _ h := storeSound_abandon h
  queue _ _ _ _ _ _ h := h
  forget _ h := h
  booted _ _ _ h := h
  issue _ _ _ _ _ h := h
  driveCapture _ _ _ h := by simpa [StoreSound] using h
  exchange _ _ may h := storeSound_exchange may h
  store _ _ _ keeps h := keeps h
  receiver _ _ _ _ _ h := by simpa [StoreSound] using h
  arrive _ _ _ _ _ h := by simpa [StoreSound] using h
  handed _ _ _ _ handed h := by
    obtain ⟨rx, rfl, -⟩ := handed_rx handed
    simpa [StoreSound] using h
  sent _ _ _ _ _ _ h := by simpa [StoreSound] using h
  enterReset _ h := storeSound_cancel (storeSound_abandon h)
  enterPowerBad s h := by
    have kept : StoreSound s.holdMain := storeSound_cancel (storeSound_abandon h)
    simpa [StoreSound] using kept
  release _ _ h := h
  stayHeld _ _ _ h := h
  cold _ _ := storeSound_reset
  accepts _ _ _ := trivial

/-- Settles O7: the soundness of the Table Store survives every elementary change, and so every step. -/
theorem stepKeepsTableStoreSound : Obligations.StepKeepsTableStoreSound :=
  fun _ _ sound stepped =>
    keptByAll_storeSound.step (fun _ _ h => h) (fun _ _ _ _ _ => trivial) sound stepped

end Sys2Proof.Machine
end

section
/-! PROOF. The Shot Queue stays sound and the ports in their ranges (04 R60, R61, R67, 01 R1, 11 R192). -/

namespace Sys2Proof.Machine

/-! ### The Shot Queue -/

/-- No records, and the failure count kept. -/
theorem queueSound_emptied {s : State} {q : ShotQueue} (records : q.records = []) (failures : q.failures = s.queue.failures)
    (sound : QueueSound s) : QueueSound { s with queue := q } :=
  queueSound_of_filter (fun _ => false) (by rw [records]; simp) (by rw [failures]; exact sound.2.2.2.2) sound

/-- Soundness of the Shot Queue is about the queue and CAPACITY. -/
theorem queueSound_congr {s t : State} (queue : t.queue = s.queue) (settings : t.settings = s.settings)
    (sound : QueueSound s) : QueueSound t := by
  unfold QueueSound at sound ⊢
  rw [queue, settings]
  exact sound

theorem queueSound_driveCapture {s : State} (why : SkipReason) (sound : QueueSound s) : QueueSound (s.driveCapture why) := by
  have records : (s.driveCapture why).queue.records = s.queue.records ∨ (s.driveCapture why).queue.records = [] := by
    obtain ⟨same, -⟩ | ⟨on, -⟩ | ⟨off, -⟩ := driveCapture_queue s why
    · exact .inl (by rw [same])
    · exact .inl (by rw [on])
    · exact .inr (by rw [off])
  have failures := (driveCapture_failures s why).1
  refine queueSound_congr (s := { s with queue := (s.driveCapture why).queue }) rfl (by simp) ?_
  obtain same | empty := records
  · exact queueSound_of_same same (by rw [failures]; exact sound.2.2.2.2) sound
  · exact queueSound_emptied empty failures sound

theorem queueSound_reset : QueueSound State.reset := by
  unfold QueueSound
  decide

theorem keptByAll_queueSound : KeptByAll (fun _ _ => True) QueueSound where
  quiet _ _ _ _ _ _ _ h := h
  sched _ _ _ h := h
  time _ _ _ _ h := h
  wakes _ _ h := h
  age _ _ h := h
  inRun _ _ _ _ _ h := h
  unlatch _ h := h
  settings s x fits h := by
    obtain same | ⟨within, small⟩ := fits
    · unfold QueueSound at h ⊢
      rw [same]
      exact h
    · exact ⟨within, small, h.2.2⟩
  sendP _ _ _ h := h
  sendS _ _ _ h := h
  session _ _ _ _ h := h
  leaveSession _ _ h := h
  queue _ _ _ _ _ keeps h := keeps h
  forget s h := queueSound_of_same rfl (Nat.zero_le _) h
  booted _ _ _ h := h
  issue _ _ _ _ keeps h := keeps h
  driveCapture _ why _ h := queueSound_driveCapture why h
  exchange _ _ _ h := queueSound_congr (by simp) (by simp) h
  store _ _ _ _ h := h
  receiver _ _ _ _ _ h := queueSound_congr (by simp) (by simp) h
  arrive _ _ _ _ _ h := queueSound_congr (by simp) (by simp) h
  handed _ _ _ _ handed h := by
    obtain ⟨rx, rfl, -⟩ := handed_rx handed
    exact queueSound_congr (by simp) (by simp) h
  sent _ _ _ _ _ _ h := queueSound_congr (by simp) (by simp) h
  enterReset s h := by
    have emptied : QueueSound { s with queue := s.holdMain.queue } := queueSound_emptied rfl rfl h
    exact emptied
  enterPowerBad s h := by
    have emptied : QueueSound { s with queue := s.holdMain.queue } := queueSound_emptied rfl rfl h
    exact queueSound_congr (by simp) (by simp [State.holdMain]) emptied
  release _ _ h := h
  stayHeld _ _ _ h := h
  cold _ _ := queueSound_reset
  accepts _ _ _ := trivial

/-! ### The ports -/

theorem portsBounded_iff (s : State) :
    PortsBounded s ↔ s.time.phase < 1000 ∧ ∀ l, (s.port l).rx.length ≤ 4 :=
  ⟨fun ⟨phase, p, q⟩ => ⟨phase, fun l => by cases l <;> assumption⟩, fun ⟨phase, rx⟩ => ⟨phase, rx .p, rx .s⟩⟩

/-- Receive queues that are no longer than before, and the phase in its range, are in their ranges. -/
theorem portsBounded_of_le {s t : State} (time : t.time = s.time)
    (rx : ∀ l, (t.port l).rx.length ≤ (s.port l).rx.length) (h : PortsBounded s) : PortsBounded t := by
  rw [portsBounded_iff] at h ⊢
  exact ⟨by rw [time]; exact h.1, fun l => (rx l).trans (h.2 l)⟩

theorem driveCapture_rx_le (s : State) (why : SkipReason) (l : Link) :
    ((s.driveCapture why).port l).rx.length ≤ (s.port l).rx.length := by
  cases l with
  | p => simp
  | s =>
    rw [port_s, port_s, driveCapture_slink]
    split
    · exact Nat.zero_le _
    · exact le_rfl

theorem setPort_rx (s : State) (l m : Link) (x : Port) :
    ((s.setPort l x).port m).rx = if m = l then x.rx else (s.port m).rx := by
  cases l <;> cases m <;> rfl

theorem portsBounded_arrive {s : State} (l : Link) (p : Packet) (h : PortsBounded s) : PortsBounded (s.arrive l p) := by
  rw [portsBounded_iff] at h ⊢
  unfold State.arrive
  split
  · rename_i room
    refine ⟨by simpa using h.1, fun m => ?_⟩
    rw [setPort_rx]
    split
    · simpa [Config.rxPlaces] using room
    · exact h.2 m
  · exact ⟨h.1, fun m => by cases m; exacts [h.2 .p, h.2 .s]⟩

theorem portsBounded_reset : PortsBounded State.reset := by
  unfold PortsBounded
  decide

theorem keptByAll_portsBounded : KeptByAll (fun _ _ => True) PortsBounded where
  quiet _ _ _ _ _ _ _ h := h
  sched _ _ _ h := h
  time s x _ phase h := by
    refine ⟨?_, h.2⟩
    obtain small | same := phase
    · exact small
    · exact same.trans_lt h.1
  wakes _ _ h := h
  age _ _ h := h
  inRun _ _ _ _ _ h := h
  unlatch _ h := h
  settings _ _ _ h := h
  sendP _ _ _ h := h
  sendS _ _ _ h := h
  session _ _ _ _ h := h
  leaveSession _ _ h := ⟨h.1, Nat.zero_le _, h.2.2⟩
  queue _ _ _ _ _ _ h := h
  forget _ h := h
  booted _ _ _ h := h
  issue _ _ _ _ _ h := h
  driveCapture s why _ h := portsBounded_of_le (by simp) (driveCapture_rx_le s why) h
  exchange _ _ _ h := portsBounded_of_le (by simp) (fun l => by cases l <;> simp) h
  store _ _ _ _ h := h
  receiver s l _ _ _ h :=
    portsBounded_of_le (by simp) (fun m => by rw [setPort_rx]; split <;> simp_all) h
  arrive _ l p _ _ h := portsBounded_arrive l p h
  handed s _ l p handed h := by
    refine portsBounded_of_le (handed_time handed) (fun m => ?_) h
    obtain ⟨rx, rfl, rest⟩ := handed_rx handed
    rw [setPort_rx]
    split
    · rename_i same
      subst same
      obtain head | ⟨-, rfl⟩ := rest
      · simp [head]
      · exact Nat.zero_le _
    · exact le_rfl
  sent s l _ _ _ _ h :=
    portsBounded_of_le (by simp) (fun m => by rw [setPort_rx]; split <;> simp_all) h
  enterReset _ h := ⟨h.1, Nat.zero_le _, Nat.zero_le _⟩
  enterPowerBad s h := by
    have held : PortsBounded s.holdMain := ⟨h.1, Nat.zero_le _, Nat.zero_le _⟩
    simpa [PortsBounded] using held
  release _ _ h := h
  stayHeld _ _ _ h := h
  cold _ _ := portsBounded_reset
  accepts _ _ _ := trivial

/-! ### The packets received -/

/-- A packet that a receive queue may take: one that names a command. -/
def Named (l : Link) (p : Packet) : Prop := (commandOf l p).isSome = true

/-- The packets of both receive queues name commands. -/
def PortsNamed (s : State) : Prop := (∀ p ∈ s.plink.rx, Named .p p) ∧ ∀ p ∈ s.slink.rx, Named .s p

theorem receivedNamed_iff (s : State) : ReceivedNamed s ↔ PortsNamed s :=
  ⟨fun h => ⟨h .p, h .s⟩, fun ⟨p, q⟩ l => by cases l <;> assumption⟩

/-- Receive queues whose packets were there before hold accepted packets only. -/
theorem portsNamed_of_subset {s t : State} (rx : ∀ l, (t.port l).rx ⊆ (s.port l).rx) (h : PortsNamed s) : PortsNamed t :=
  ⟨fun p mem => h.1 p (rx .p mem), fun p mem => h.2 p (rx .s mem)⟩

theorem driveCapture_rx_subset (s : State) (why : SkipReason) (l : Link) :
    ((s.driveCapture why).port l).rx ⊆ (s.port l).rx := by
  cases l with
  | p => simp
  | s =>
    rw [port_s, port_s, driveCapture_slink]
    split <;> simp

theorem portsNamed_arrive {s : State} {l : Link} {p : Packet} (named : Named l p) (h : PortsNamed s) :
    PortsNamed (s.arrive l p) := by
  rw [← receivedNamed_iff] at h ⊢
  unfold State.arrive
  split
  · intro m q mem
    rw [setPort_rx] at mem
    split at mem
    · rename_i same
      subst same
      obtain old | new := List.mem_append.mp mem
      · exact h m q old
      · rw [List.mem_singleton.mp new]
        exact named
    · exact h m q mem
  · exact fun m q mem => h m q (by cases m <;> exact mem)

theorem keptByAll_portsNamed : KeptByAll Named PortsNamed where
  quiet _ _ _ _ _ _ _ h := h
  sched _ _ _ h := h
  time _ _ _ _ h := h
  wakes _ _ h := h
  age _ _ h := h
  inRun _ _ _ _ _ h := h
  unlatch _ h := h
  settings _ _ _ h := h
  sendP _ _ _ h := h
  sendS _ _ _ h := h
  session _ _ _ _ h := h
  leaveSession _ _ h := ⟨nofun, h.2⟩
  queue _ _ _ _ _ _ h := h
  forget _ h := h
  booted _ _ _ h := h
  issue _ _ _ _ _ h := h
  driveCapture s why _ h := portsNamed_of_subset (driveCapture_rx_subset s why) h
  exchange _ _ _ h := by simpa [PortsNamed] using h
  store _ _ _ _ h := h
  receiver s l _ _ _ h := portsNamed_of_subset (fun m => by rw [setPort_rx]; split <;> simp_all) h
  arrive _ _ _ _ named h := portsNamed_arrive named h
  handed s _ l p handed h := by
    obtain ⟨rx, rfl, rest⟩ := handed_rx handed
    refine portsNamed_of_subset (fun m => ?_) h
    rw [setPort_rx]
    split
    · rename_i same
      subst same
      obtain head | ⟨-, rfl⟩ := rest
      · rw [head]; exact List.subset_cons_self _ _
      · exact List.nil_subset _
    · exact fun _ h => h
  sent s l _ _ _ tx h :=
    portsNamed_of_subset (fun m => by rw [setPort_rx]; split <;> simp_all) h
  enterReset _ _ := ⟨nofun, nofun⟩
  enterPowerBad s _ := by
    have held : PortsNamed s.holdMain := ⟨nofun, nofun⟩
    simpa [PortsNamed] using held
  release _ _ h := h
  stayHeld _ _ _ h := h
  cold _ _ := ⟨nofun, nofun⟩
  accepts _ _ accepted := commandOf_of_accepted accepted

end Sys2Proof.Machine
end

section
/-! PROOF. The main domain stays at its held values outside RUN (01 R13; log 17). Nearly every elementary change is made in RUN,
where nothing is asked; the supply entries set the values, and the few changes made outside RUN leave them. -/

namespace Sys2Proof.Machine

/-- In RUN nothing is held. -/
theorem mainHeld_run {s : State} (run : s.time.domain = .run) : MainHeld s :=
  ⟨fun bad => absurd (run.symm.trans bad) (by decide), fun held => absurd run held⟩

/-- The main domain's items at their held values, the pending shot apart. -/
theorem mainHeld_holdMain (s : State) (d : Domain) (slot : d = .powerBad → s.sched.slot = none) :
    MainHeld (s.holdMain.enterDomain d) := by
  refine ⟨slot, fun _ => ⟨rfl, rfl, rfl, rfl, ?_, rfl, rfl, rfl⟩⟩
  simp only [State.holdMain, State.enterDomain, TableStore.abandon]
  cases load : s.store.load with
  | none => exact load
  | some tr => rfl

theorem mainHeld_reset : MainHeld State.reset := by
  unfold MainHeld
  decide

theorem keptByAll_mainHeld : KeptByAll (fun _ _ => True) MainHeld where
  quiet _ _ _ _ _ _ _ h := h
  sched s x change h := by
    refine ⟨fun bad => ?_, h.2⟩
    obtain empty | same | run := change
    · exact empty
    · exact same.trans (h.1 bad)
    · exact absurd (run.symm.trans bad) (by decide)
  time s x same _ h := by
    rw [MainHeld] at h ⊢
    rw [same]
    exact h
  wakes s n h := by
    refine ⟨h.1, fun held => ?_⟩
    obtain ⟨queue, session, rest⟩ := h.2 held
    exact ⟨queue, by rw [session], rest⟩
  age s n h := by
    refine ⟨h.1, fun held => ?_⟩
    obtain ⟨queue, session, rails, meas, load, commit, plink, slink⟩ := h.2 held
    refine ⟨?_, ?_, ?_, ?_, load, commit, ?_, ?_⟩
    · dsimp only [State.ageTimers]; rw [queue]; rfl
    · dsimp only [State.ageTimers]; rw [session]; rfl
    · dsimp only [State.ageTimers]; rw [rails]; rfl
    · dsimp only [State.ageTimers]; rw [meas]; rfl
    · dsimp only [State.ageTimers]; rw [plink]; rfl
    · dsimp only [State.ageTimers]; rw [slink]; rfl
  inRun _ _ _ run _ _ := mainHeld_run run
  unlatch s h := by
    refine ⟨h.1, fun held => ?_⟩
    obtain ⟨queue, session, rails, meas, rest⟩ := h.2 held
    exact ⟨queue, session, rails, by rw [meas], rest⟩
  settings _ _ _ h := h
  sendP _ _ run _ := mainHeld_run run
  sendS _ _ run _ := mainHeld_run run
  session _ _ run _ _ := mainHeld_run run
  leaveSession _ run _ := mainHeld_run run
  queue _ _ run _ _ _ _ := mainHeld_run run
  forget s h := by
    refine ⟨h.1, fun held => ?_⟩
    obtain ⟨queue, rest⟩ := h.2 held
    exact ⟨by rw [queue], rest⟩
  booted _ run _ _ := mainHeld_run run
  issue _ _ run _ _ _ := mainHeld_run run
  driveCapture _ why run _ := mainHeld_run (driveCapture_run why run)
  exchange s tables may h := by
    by_cases run : s.time.domain = .run
    · exact mainHeld_run (by simpa using run)
    · obtain ⟨-, -, -, -, -, idle, -⟩ := h.2 run
      obtain ⟨point, pending⟩ | ⟨now, -⟩ := may
      · cases idle.symm.trans pending
      · exact absurd now run
  store _ _ run _ _ := mainHeld_run run
  receiver _ _ _ _ run _ := mainHeld_run (by simpa using run)
  arrive _ _ _ run _ _ := mainHeld_run (by simpa using run)
  handed _ _ _ _ handed _ := mainHeld_run (by rw [handed_time handed]; exact handed.1)
  sent _ _ _ _ run _ _ := mainHeld_run (by simpa using run)
  enterReset s _ := mainHeld_holdMain s .reset nofun
  enterPowerBad s _ := by
    have held := (mainHeld_holdMain s .reset nofun).2 nofun
    refine ⟨fun _ => endPending_slot _ _, fun _ => ?_⟩
    simpa only [enterDomain_queue, enterDomain_session, enterDomain_rails, enterDomain_meas, enterDomain_store,
      enterDomain_plink, enterDomain_slink, endPending_queue, endPending_session, endPending_rails, endPending_meas,
      endPending_store, endPending_plink, endPending_slink] using held
  release _ _ _ := mainHeld_run rfl
  stayHeld s reset slot h := ⟨fun _ => slot, fun _ => h.2 (by rw [reset]; decide)⟩
  cold _ _ := mainHeld_reset
  accepts _ _ _ := trivial

/-- Settles O8: the held values survive every elementary change, and so every step. -/
theorem stepKeepsMainDomainHeld : Obligations.StepKeepsMainDomainHeld :=
  fun _ _ held stepped =>
    keptByAll_mainHeld.step (fun _ _ h => h) (fun _ _ _ _ _ => trivial) held stepped

end Sys2Proof.Machine
end

section
/-! PROOF. The head of a receive queue waits for its condition, or the queue is empty (11 R193; log 4). What holds a head back
only grows, but for completed transmissions, after which the queue is served until its head waits again. -/

namespace Sys2Proof.Machine

/-! ### Serving the head -/

/-- A head that names a command is taken when its condition holds, and stays otherwise. -/
theorem handHead_eq {l : Link} {p : Packet} {rest : List Packet} {c : Instr} {s : State} (run : s.time.domain = .run)
    (rx : (s.port l).rx = p :: rest) (named : commandOf l p = some c) :
    s.handHead l = if admits l c s then taking l c (s.setPort l { s.port l with rx := rest }) else s := by
  obtain ⟨carries, -⟩ := packetOf_commandOf named
  unfold State.handHead
  simp only [rx, named, packetStep_exec carries, exec_packet carries, stateAfter, State.handOver, run, if_true]

/-- The packet at the head of a receive queue, if any, is one whose condition does not hold. -/
def HeadWaits (l : Link) (s : State) : Prop :=
  ∀ p rest c, (s.port l).rx = p :: rest → commandOf l p = some c → MustWait l c s

theorem headWaits_of_empty {l : Link} {s : State} (empty : (s.port l).rx = []) : HeadWaits l s := by
  intro p rest c rx
  cases empty.symm.trans rx

/-- A head that waits is not served. -/
theorem handHead_waits {l : Link} {s : State} (run : s.time.domain = .run) (waits : HeadWaits l s) : s.handHead l = s := by
  cases rx : (s.port l).rx with
  | nil => simp [State.handHead, rx]
  | cons p rest =>
    cases named : commandOf l p with
    | none => simp [State.handHead, rx, named]
    | some c =>
      obtain ⟨carries, -⟩ := packetOf_commandOf named
      have blocked : ¬ admits l c s = true := fun free => (admits_iff carries s).mp free (waits p rest c rx named)
      rw [handHead_eq run rx named, if_neg blocked]

/-! ### What holds a head back -/

/-- On the S-link a head is held back by the transmit line alone. -/
theorem mustWait_s_iff {c : Instr} {p : Packet} (named : commandOf .s p = some c) (s : State) :
    MustWait .s c s ↔ 3 < s.slink.tx.length := by
  have other : c ≠ .ready := by
    rintro rfl
    obtain ⟨carries, -⟩ := packetOf_commandOf named
    cases carries
  simp [MustWait, other]

/-- A longer transmit line and the moves of a session hold back what was held back. A session that begins finds no head:
in OFF nothing is held back. -/
theorem mustWait_p_mono {c : Instr} {s t : State} (tx : s.plink.tx.length ≤ t.plink.tx.length)
    (moves : SessionMoves s.session.state t.session.state) (waits : MustWait .p c s) : MustWait .p c t := by
  obtain ⟨wrong, -⟩ | ⟨ready, notOff, full⟩ | ⟨-, noReady, noSleep, inside, full⟩ := waits
  · cases wrong
  · refine .inr (.inl ⟨ready, ?_, by omega⟩)
    obtain same | ⟨off, -⟩ | ⟨-, awake⟩ | ⟨-, closing⟩ := moves
    · rwa [same]
    · exact absurd off notOff
    · rw [awake]; decide
    · rw [closing]; decide
  · refine .inr (.inr ⟨rfl, noReady, noSleep, ?_, by omega⟩)
    rw [inSession_iff] at inside ⊢
    obtain same | ⟨off, -⟩ | ⟨waking, -⟩ | ⟨-, closing⟩ := moves
    · rwa [same]
    · simp [off] at inside
    · simp [waking] at inside
    · exact .inr closing

/-- In RUN the head of a link's receive queue waits; outside RUN the queue is empty. -/
def Waits (l : Link) (s : State) : Prop :=
  (s.time.domain = .run → HeadWaits l s) ∧ (s.time.domain ≠ .run → (s.port l).rx = [])

theorem waits_of_empty {l : Link} {s : State} (empty : (s.port l).rx = []) : Waits l s :=
  ⟨fun _ => headWaits_of_empty empty, fun _ => empty⟩

theorem waits_s_mono {s t : State} (h : Waits .s s) (time : t.time = s.time) (rx : t.slink.rx = s.slink.rx)
    (tx : s.slink.tx.length ≤ t.slink.tx.length) : Waits .s t := by
  refine ⟨fun run p rest c head named => ?_, fun held => rx.trans (h.2 (by rwa [← time]))⟩
  rw [mustWait_s_iff named]
  have before := h.1 (by rwa [← time]) p rest c (rx.symm.trans head) named
  rw [mustWait_s_iff named] at before
  omega

theorem waits_p_mono {s t : State} (h : Waits .p s) (time : t.time = s.time) (rx : t.plink.rx = s.plink.rx)
    (tx : s.plink.tx.length ≤ t.plink.tx.length) (moves : SessionMoves s.session.state t.session.state) : Waits .p t :=
  ⟨fun run p rest c head named => mustWait_p_mono tx moves (h.1 (by rwa [← time]) p rest c (rx.symm.trans head) named),
    fun held => rx.trans (h.2 (by rwa [← time]))⟩

/-- The P-link's head waits through every elementary change: the line grows, a session that ends discards the queue. -/
theorem kept_waits_p : KeptBySupply (Waits .p) where
  quiet _ _ _ _ _ _ _ h := h
  sched _ _ _ h := h
  time s x same _ h := by
    refine ⟨fun run => h.1 (same ▸ run), fun held => h.2 (same ▸ held)⟩
  wakes _ _ h := h
  age _ _ h := h
  inRun _ _ _ _ _ h := h
  unlatch _ h := h
  settings _ _ _ h := h
  sendP _ _ _ h := waits_p_mono h rfl rfl (by simp) (.inl rfl)
  sendS _ _ _ h := waits_p_mono h rfl rfl le_rfl (.inl rfl)
  session _ _ _ moves h := waits_p_mono h rfl rfl le_rfl moves
  leaveSession _ _ _ := waits_of_empty rfl
  queue _ _ _ _ _ _ h := h
  forget _ h := h
  booted _ _ _ h := h
  issue _ _ _ _ _ h := waits_p_mono h rfl rfl le_rfl (.inl rfl)
  driveCapture _ _ _ h := waits_p_mono h (by simp) (by simp) (by simp) (.inl (by simp))
  exchange _ _ _ h := h
  store _ _ _ _ h := h
  enterReset _ _ := waits_of_empty rfl
  enterPowerBad _ _ := waits_of_empty (by simp [State.holdMain, Port.cleared])
  release _ held h := waits_of_empty (h.2 held)
  stayHeld _ reset _ h := waits_of_empty (h.2 (by rw [reset]; decide))
  cold _ _ := waits_of_empty rfl

/-- The S-link's head waits through every elementary change: the line grows, an off edge of the capture rail empties both
lines. -/
theorem kept_waits_s : KeptBySupply (Waits .s) where
  quiet _ _ _ _ _ _ _ h := h
  sched _ _ _ h := h
  time s x same _ h := by
    refine ⟨fun run p rest c head named => ?_, fun held => h.2 (same ▸ held)⟩
    exact (mustWait_s_iff named _).mpr ((mustWait_s_iff named _).mp (h.1 (same ▸ run) p rest c head named))
  wakes _ _ h := waits_s_mono h rfl rfl le_rfl
  age _ _ h := waits_s_mono h rfl rfl le_rfl
  inRun _ _ _ _ _ h := h
  unlatch _ h := h
  settings _ _ _ h := h
  sendP _ _ _ h := waits_s_mono h rfl rfl le_rfl
  sendS _ _ _ h := waits_s_mono h rfl rfl (by simp)
  session _ _ _ _ h := waits_s_mono h rfl rfl le_rfl
  leaveSession _ _ h := waits_s_mono h rfl rfl le_rfl
  queue _ _ _ _ _ _ h := h
  forget _ h := h
  booted _ _ _ h := h
  issue _ _ _ _ _ h := waits_s_mono h rfl rfl (by simp [State.issue])
  driveCapture s why _ h := by
    by_cases off : s.rails.capture = true ∧ s.captureLevel = false
    · exact waits_of_empty (by rw [port_s, driveCapture_slink, if_pos off])
    · have same : (s.driveCapture why).slink = s.slink := by rw [driveCapture_slink, if_neg off]
      exact waits_s_mono h (by simp) (by rw [same]) (by rw [same])
  exchange _ _ _ h := h
  store _ _ _ _ h := h
  enterReset _ _ := waits_of_empty rfl
  enterPowerBad _ _ := waits_of_empty (by simp [State.holdMain, Port.cleared])
  release _ held h := waits_of_empty (h.2 held)
  stayHeld _ reset _ h := waits_of_empty (h.2 (by rw [reset]; decide))
  cold _ _ := waits_of_empty rfl

theorem kept_waits (l : Link) : KeptBySupply (Waits l) := by
  cases l
  · exact kept_waits_p
  · exact kept_waits_s

end Sys2Proof.Machine
end

section
/-! PROOF. Receive queues are served until their heads wait (11 R193; log 4): by the packet that arrives, by the completed
transmission that frees a place, and by the packet's own command. -/

namespace Sys2Proof.Machine

/-! ### The other link, and the length of a queue -/

/-- A change of one port leaves the other link's head waiting. -/
theorem waits_setPort_other {l k : Link} {s : State} {x : Port} (other : k ≠ l) (h : Waits k s) :
    Waits k (s.setPort l x) := by
  cases l <;> cases k
  · exact absurd rfl other
  · exact waits_s_mono h rfl rfl le_rfl
  · exact waits_p_mono h rfl rfl le_rfl (.inl rfl)
  · exact absurd rfl other

theorem waits_setPort_same {l : Link} {s : State} {x : Port} (h : Waits l s) (rx : x.rx = (s.port l).rx)
    (tx : x.tx = (s.port l).tx) : Waits l (s.setPort l x) := by
  cases l
  · exact waits_p_mono h rfl rx (by rw [setPort_p, tx]; exact le_rfl) (.inl rfl)
  · exact waits_s_mono h rfl rx (by rw [setPort_s, tx]; exact le_rfl)

/-- No elementary change lengthens a receive queue. -/
theorem kept_rx_le (a b : Nat) : Kept (fun s => s.plink.rx.length ≤ a ∧ s.slink.rx.length ≤ b) where
  quiet _ _ _ _ _ _ _ h := h
  sched _ _ _ h := h
  time _ _ _ _ h := h
  wakes _ _ h := h
  age _ _ h := h
  inRun _ _ _ _ _ h := h
  unlatch _ h := h
  settings _ _ _ h := h
  sendP _ _ _ h := h
  sendS _ _ _ h := h
  session _ _ _ _ h := h
  leaveSession _ _ h := ⟨Nat.zero_le _, h.2⟩
  queue _ _ _ _ _ _ h := h
  forget _ h := h
  booted _ _ _ h := h
  issue _ _ _ _ _ h := h
  driveCapture s why _ h := ⟨(driveCapture_rx_le s why .p).trans h.1, (driveCapture_rx_le s why .s).trans h.2⟩
  exchange _ _ _ h := h
  store _ _ _ _ h := h

/-- Taking a packet lengthens no receive queue. -/
theorem taking_rx_le (l : Link) (c : Instr) {s : State} (run : s.time.domain = .run) (k : Link) :
    ((taking l c s).port k).rx.length ≤ (s.port k).rx.length := by
  have both := (kept_rx_le s.plink.rx.length s.slink.rx.length).taking l c run ⟨le_rfl, le_rfl⟩
  cases k
  · exact both.1
  · exact both.2

theorem taking_run (l : Link) (c : Instr) {s : State} (run : s.time.domain = .run) : (taking l c s).time.domain = .run :=
  keptByPorts_run.toKept.taking l c run run

/-! ### Serving a queue to its end -/

/-- In RUN a waiting head is all there is to say of a link. -/
theorem waits_run {l : Link} {s : State} (run : s.time.domain = .run) (h : HeadWaits l s) : Waits l s :=
  ⟨fun _ => h, fun held => absurd run held⟩

/-- As many hand-overs as there are packets leave a head that waits, or no head. -/
theorem waits_handHeads {l : Link} {n : Nat} {s : State} (run : s.time.domain = .run) (enough : (s.port l).rx.length ≤ n)
    (others : ∀ k ≠ l, Waits k s) (k : Link) : Waits k (s.handHeads l n) := by
  induction n generalizing s with
  | zero =>
    by_cases same : k = l
    · subst same
      exact waits_of_empty (List.length_eq_zero_iff.mp (Nat.le_zero.mp enough))
    · exact others k same
  | succ n ih =>
    by_cases stays : HeadWaits l s
    · rw [handHeads_waits (handHead_waits run stays)]
      by_cases same : k = l
      · exact same ▸ waits_run run stays
      · exact others k same
    · obtain ⟨p, rest, c, rx, named, free⟩ : ∃ p rest c, (s.port l).rx = p :: rest ∧ commandOf l p = some c ∧
          ¬ MustWait l c s := by simpa only [HeadWaits, not_forall, exists_prop] using stays
      obtain ⟨carries, -⟩ := packetOf_commandOf named
      have moved : s.handHead l = taking l c (s.setPort l { s.port l with rx := rest }) := by
        rw [handHead_eq run rx named, if_pos ((admits_iff carries s).mpr free)]
      have still : (s.setPort l { s.port l with rx := rest }).time.domain = .run := by simpa using run
      rw [State.handHeads, moved]
      refine ih (taking_run l c still) ?_ fun m other => ?_
      · refine (taking_rx_le l c still l).trans ?_
        rw [setPort_rx, if_pos rfl]
        rw [rx] at enough
        simpa using enough
      · exact (kept_waits m).taking l c still (waits_setPort_other other (others m other))

theorem waits_servePort {l : Link} {s : State} (run : s.time.domain = .run) (others : ∀ k ≠ l, Waits k s) (k : Link) :
    Waits k (s.servePort l) := waits_handHeads run le_rfl others k

/-- A packet that joins a queue behind a head that waits leaves it waiting. -/
theorem waits_arrive_behind {l : Link} {s : State} {p q : Packet} {rest : List Packet} (run : s.time.domain = .run)
    (rx : (s.port l).rx = q :: rest) (h : ∀ k, Waits k s) (k : Link) : Waits k (s.arrive l p) := by
  unfold State.arrive
  split
  · by_cases same : k = l
    · subst same
      refine waits_run (by simpa using run) fun q' rest' c head named => ?_
      have front : q' = q := by
        rw [setPort_rx, if_pos rfl, rx] at head
        exact (List.cons.inj head).1.symm
      subst front
      have before := (h k).1 run q' rest c rx named
      cases k <;> exact before
    · exact waits_setPort_other same (h k)
  · have marked : Waits k s := h k
    exact (kept_waits k).count _ marked

/-- A packet whose condition does not hold waits at the head of its empty queue. -/
theorem waits_arrive_head {l : Link} {s : State} {p : Packet} {c : Instr} (run : s.time.domain = .run)
    (rx : (s.port l).rx = []) (named : commandOf l p = some c) (blocked : MustWait l c s) (h : ∀ k, Waits k s) (k : Link) :
    Waits k (s.arrive l p) := by
  have joined : s.arrive l p = s.setPort l { s.port l with rx := [p] } := by
    simp [State.arrive, rx, Config.rxPlaces]
  rw [joined]
  by_cases same : k = l
  · subst same
    refine waits_run (by simpa using run) fun q rest d head other => ?_
    rw [setPort_rx, if_pos rfl] at head
    cases head
    cases named.symm.trans other
    cases k <;> exact blocked
  · exact waits_setPort_other same (h k)

/-! ### The packet commands and the ports' events -/

/-- The command of a packet that its own port would accept leaves every head waiting. -/
theorem waits_packet {c : Instr} {l : Link} {p : Packet} (carries : packetOf c = some (l, p))
    (named : commandOf l p = some c) {s : State} (h : ∀ k, Waits k s) : ∃ t, exec c s = .next t ∧ ∀ k, Waits k t := by
  refine ⟨_, exec_packet carries s, fun k => ?_⟩
  by_cases run : s.time.domain = .run
  · cases rx : (s.port l).rx with
    | nil =>
      cases free : admits l c s with
      | true =>
        rw [handOver_handed _ _ ⟨run, .inl ⟨rx, rfl⟩⟩ free]
        exact (kept_waits k).taking l c run (h k)
      | false =>
        have blocked : MustWait l c s := by
          by_contra may
          rw [(admits_iff carries s).mpr may] at free
          cases free
        have joins : s.handOver l p (admits l c) (taking l c) = s.arrive l p := by
          simp [State.handOver, run, rx, free]
        rw [joins]
        exact waits_arrive_head run rx named blocked h k
    | cons q rest =>
      by_cases head : q = p
      · subst head
        have stays : ¬ admits l c s = true := fun free =>
          (admits_iff carries s).mp free ((h l).1 run q rest c rx named)
        have same : s.handOver l q (admits l c) (taking l c) = s := by simp [State.handOver, run, rx, stays]
        rw [same]
        exact h k
      · have joins : s.handOver l p (admits l c) (taking l c) = s.arrive l p := by
          simp [State.handOver, run, rx, head]
        rw [joins]
        exact waits_arrive_behind run rx h k
  · rw [handOver_held _ _ run]
    exact h k

theorem waits_received {s : State} {l : Link} {p : Packet} (run : s.time.domain = .run) (h : ∀ k, Waits k s) (k : Link) :
    Waits k ((s.arrive l p).servePort l) := by
  refine waits_servePort (by simpa using run) (fun m other => ?_) k
  unfold State.arrive
  split
  · exact waits_setPort_other other (h m)
  · exact (kept_waits m).count _ (h m)

theorem waits_completed {s : State} {l : Link} (run : s.time.domain = .run) (h : ∀ k, Waits k s) (k : Link) :
    Waits k ((s.transmitted l).servePort l) := by
  have still : (s.transmitted l).time.domain = .run := keptByPorts_run.handOver.transmitted l run run
  refine waits_servePort still (fun m other => ?_) k
  unfold State.transmitted
  split
  · exact h m
  · have left : ∀ x : Port, Waits m (s.setPort l x) := fun x => waits_setPort_other other (h m)
    dsimp only
    split
    · exact left _
    · split
      · exact (kept_waits m).sessionSame (left _) _ run rfl
      · exact left _

theorem keptByLinks_waits : KeptByLinks (fun s => ∀ k, Waits k s) where
  mark _ _ _ h k := (kept_waits k).quietly (h k) _ _ _ _ _ _
  receiver s l receiver gap _ h k := by
    by_cases same : k = l
    · subst same
      exact waits_setPort_same (h k) rfl rfl
    · exact waits_setPort_other same (h k)
  received _ _ _ run _ h := waits_received run h
  completed _ _ run h := waits_completed run h

/-- A well-formed command leaves every head waiting. -/
theorem waits_exec {c : Instr} (formed : WellFormed c = true) {s : State} (h : ∀ k, Waits k s) :
    ∃ t, exec c s = .next t ∧ ∀ k, Waits k t := by
  cases carries : packetOf c with
  | some lp => exact waits_packet carries (commandOf_packetOf formed carries) h
  | none =>
    cases link : isLinkEvent c with
    | true => exact keptByLinks_waits.linkEvent link h
    | false =>
      obtain ⟨t, next, p⟩ := (kept_waits .p).event carries link (h .p)
      obtain ⟨u, next', q⟩ := (kept_waits .s).event carries link (h .s)
      cases next.symm.trans next'
      exact ⟨t, next, fun k => by cases k <;> assumption⟩

theorem waits_iff {s : State} (held : MainHeld s) : (∀ l, Waits l s) ↔ HeadsWait s := by
  refine ⟨fun h run l => (h l).1 run, fun h l => ⟨fun run => h run l, fun off => ?_⟩⟩
  obtain ⟨-, -, -, -, -, -, plink, slink⟩ := held.2 off
  cases l
  · rw [port_p, plink]; rfl
  · rw [port_s, slink]; rfl

/-- Settles O6: queue, ports and the packets received keep their soundness through every elementary change; a head that waits
goes on waiting, and the events that could free it serve its queue. -/
theorem stepKeepsQueueAndPortsSound : Obligations.StepKeepsQueueAndPortsSound := by
  refine ⟨fun s t sound stepped => ?_, fun s t bounded stepped => ?_, fun s t formed named stepped => ?_,
    fun s t formed _ held waits stepped => ?_⟩
  · exact keptByAll_queueSound.step (fun _ _ h => h) (fun _ _ _ _ _ => trivial) sound stepped
  · exact keptByAll_portsBounded.step (fun _ _ h => h) (fun _ _ _ _ _ => trivial) bounded stepped
  · rw [receivedNamed_iff] at named ⊢
    refine keptByAll_portsNamed.step (fun _ _ h => h) (fun c l p front carries => ?_) named stepped
    rw [Named, commandOf_packetOf (formed c front) carries]
    rfl
  · intro run l
    have after : ∀ k, Waits k t :=
      step_keeps (fun _ _ h k => by cases k; exacts [h .p, h .s]) (fun c front x h => waits_exec (formed c front) h)
        ((waits_iff held).mpr waits) stepped
    exact (after l).1 run

end Sys2Proof.Machine
end

section
/-! PROOF. The block's interface, cold start, and the changes of inputs that only set a flag (01 R12, 10 R188). -/

namespace Sys2Proof.Machine

/-- Settles O1: both halves are the step itself. -/
theorem stepTakesCommandsInOrder : Obligations.StepTakesCommandsInOrder := by
  refine ⟨fun _ _ _ => rfl, fun s empty => ?_⟩
  unfold step
  rw [empty]

/-- No elementary change touches the queue of commands. -/
theorem keptByAll_pending (q : List Instr) : KeptByAll (fun _ _ => True) (fun s => s.pending = q) where
  quiet _ _ _ _ _ _ _ h := h
  sched _ _ _ h := h
  time _ _ _ _ h := h
  wakes _ _ h := h
  age _ _ h := h
  inRun _ _ _ _ _ h := h
  unlatch _ h := h
  settings _ _ _ h := h
  sendP _ _ _ h := h
  sendS _ _ _ h := h
  session _ _ _ _ h := h
  leaveSession _ _ h := h
  queue _ _ _ _ _ _ h := h
  forget _ h := h
  booted _ _ _ h := h
  issue _ _ _ _ _ h := h
  driveCapture _ _ _ h := by simpa using h
  exchange _ _ _ h := h
  store _ _ _ _ h := h
  receiver _ _ _ _ _ h := by simpa using h
  arrive _ _ _ _ _ h := by simpa using h
  handed _ _ _ _ handed h := by
    obtain ⟨rx, rfl, -⟩ := handed_rx handed
    simpa using h
  sent _ _ _ _ _ _ h := by simpa using h
  enterReset _ h := h
  enterPowerBad _ h := by simpa using h
  release _ _ h := h
  stayHeld _ _ _ h := h
  cold _ h := h
  accepts _ _ _ := trivial

/-- Settles O2: whatever survives every elementary change survives every command, the queue of commands among it. -/
theorem everyCommandAnswersNext : Obligations.EveryCommandAnswersNext :=
  fun _ s => (keptByAll_pending s.pending).exec (fun _ _ _ => trivial) rfl

/-- Settles O3: cold start answers `State.reset`, and each item is read off it. -/
theorem coldStartTakesDefaults : Obligations.ColdStartTakesDefaults := by
  intro s
  refine ⟨_, rfl, rfl, rfl, rfl, rfl, rfl, rfl, rfl, ?_, ?_, ?_, rfl, rfl, fun k => ?_, rfl, rfl, ?_⟩
  · exact ⟨rfl, rfl, rfl, rfl, rfl, rfl, rfl, rfl, rfl, rfl⟩
  · exact ⟨rfl, rfl, rfl, rfl, rfl, rfl, rfl, rfl, rfl, rfl⟩
  · exact ⟨rfl, rfl, rfl⟩
  · cases k <;> rfl
  · exact ⟨rfl, rfl, rfl, rfl, rfl, rfl, rfl, rfl, rfl, rfl, rfl, rfl, rfl, rfl, rfl, rfl, rfl, rfl, rfl, rfl, rfl, rfl,
      rfl, rfl⟩

theorem outputsSafe_reset : OutputsSafe State.reset := by
  unfold OutputsSafe
  decide

/-- Settles O4: each invariant at the cold-start state. -/
theorem invariantsHoldAtColdStart : Obligations.InvariantsHoldAtColdStart :=
  ⟨outputsSafe_reset, portsBounded_reset, queueSound_reset, storeSound_reset, mainHeld_reset,
    fun l => by cases l <;> exact nofun, fun run => absurd run (by decide)⟩

/-- Settles O24: each is the one branch of its command. -/
theorem inputChangesSetTheirFlags : Obligations.InputChangesSetTheirFlags := by
  refine ⟨fun s held => ?_, fun s low => ?_, fun s low => ?_⟩
  · simp only [exec, execSupokChangeInReset, State.supokSeen, held, if_true]
    rw [if_neg (by cases s.pins.supok <;> decide)]
    rfl
  · simp only [exec, execTrigOrServiceHigh, low, Bool.false_eq_true, if_false]
    rfl
  · simp only [exec, execTrigOrServiceHigh, low, Bool.false_eq_true, if_false]
    rfl

end Sys2Proof.Machine
end

section
/-! PROOF. Packets that wait (11 R192, R193, 10 R180), the ranges and the storing of settings (10 R182). -/

namespace Sys2Proof.Machine

/-- Settles O42: each item's range, read off its test. -/
theorem settingsRanges : Obligations.SettingsRanges := by
  refine ⟨fun e listed v => ?_, fun _ => rfl, fun v => by simp [Item.inRange]⟩
  have top : Config.maxPosition = 1008 := rfl
  fin_cases listed <;> simp only [Item.inRange, Bool.and_eq_true, decide_eq_true_iff] <;> omega

/-- A packet that does not stand at the head of its queue joins it, or is an overrun. -/
theorem arrive_eq (l : Link) (p : Packet) (s : State) : s.arrive l p =
    if (s.port l).rx.length < 4 then s.setPort l { s.port l with rx := (s.port l).rx ++ [p] }
    else s.count (overrunCounter l) := rfl

/-- Settles O40: the five cases of a hand-over. -/
theorem packetsWaitForTheirCondition : Obligations.PacketsWaitForTheirCondition := by
  refine ⟨fun c l p s carries => ?_, fun s => ⟨inSession_iff s, fun n => roomP_iff n s, roomS_iff s, rfl, rfl, fun _ => ⟨rfl, rfl⟩⟩,
    rfl, rfl⟩
  have blocked : MustWait l c s → admits l c s = false := fun waits => by
    by_contra free
    exact (admits_iff carries s).mp (by simpa using free) waits
  rw [exec_packet carries]
  refine ⟨fun held => ?_, fun rest run rx waits => ?_, fun run rx waits => ?_, fun q rest run rx other room => ?_,
    fun q rest run rx other full => ?_⟩
  · rw [handOver_held _ _ held]
  · simp [State.handOver, run, rx, blocked waits]
  · have joins : s.handOver l p (admits l c) (taking l c) = s.arrive l p := by
      simp [State.handOver, run, rx, blocked waits]
    rw [joins, arrive_eq, if_pos (by rw [rx]; decide)]
  · have joins : s.handOver l p (admits l c) (taking l c) = s.arrive l p := by
      simp [State.handOver, run, rx, other]
    rw [joins, arrive_eq, if_pos room]
  · have joins : s.handOver l p (admits l c) (taking l c) = s.arrive l p := by
      simp [State.handOver, run, rx, other]
    rw [joins, arrive_eq, if_neg (by omega)]

end Sys2Proof.Machine
end

section
/-! PROOF. The end of an event (07 R126 to R132, R141; log 7): what it leaves alone, the levels that the outputs take, and what
an edge of the capture rail does. -/

namespace Sys2Proof.Machine

/-! ### The levels of the ownership chains (07 R126) -/

theorem recorderLevel_iff (s : State) :
    s.recorderLevel = true ↔ s.time.domain = .run ∧ s.session.state ≠ .off := by
  simp [State.recorderLevel]

theorem heaterLevel_iff (s : State) : s.heaterLevel = true ↔
    s.time.domain = .run ∧ s.queue.has .ordered = false ∧ s.meas.sagLatch = false ∧ s.tierBansHeat = false ∧
      (s.settings.heaterMode = .on ∨
        (s.settings.heaterMode = .auto ∧ s.rails.phaseOn = true ∧ 0 < s.rails.periodDuty)) := by
  cases mode : s.settings.heaterMode <;> simp [State.heaterLevel, mode, and_assoc]

theorem captureLevel_iff (s : State) : s.captureLevel = true ↔
    s.time.domain = .run ∧ s.rails.moduleLatch = false ∧ s.bandForbids = false ∧ s.rails.cycleHold = false ∧
      (s.settings.captureMode = .on ∨ (s.settings.captureMode = .auto ∧ s.rails.demand = true)) := by
  cases mode : s.settings.captureMode <;> simp [State.captureLevel, mode, and_assoc]

/-- The tier's row is read from the tier and the active tier bank. -/
theorem tierRow_congr {a b : State} (tier : a.meas.tier = b.meas.tier) (bank : a.store.tier.active = b.store.tier.active) :
    a.tierRow = b.tierRow := by
  simp only [State.tierRow, tier, bank]

theorem tierBansHeat_congr {a b : State} (tier : a.meas.tier = b.meas.tier)
    (bank : a.store.tier.active = b.store.tier.active) : a.tierBansHeat = b.tierBansHeat := by
  simp only [State.tierBansHeat, tierRow_congr tier bank]

/-- The thermal row is read from the band and the active thermal bank. -/
theorem bandRow_congr {a b : State} (band : a.rails.band = b.rails.band)
    (bank : a.store.thermal.active = b.store.thermal.active) : a.bandRow = b.bandRow := by
  simp only [State.bandRow, band, bank]

theorem bandForbids_congr {a b : State} (band : a.rails.band = b.rails.band)
    (bank : a.store.thermal.active = b.store.thermal.active) : a.bandForbids = b.bandForbids := by
  simp only [State.bandForbids, bandRow_congr band bank]

/-- A load given up leaves the active banks. -/
theorem abandon_active (st : TableStore) : st.abandon.window.active = st.window.active ∧
    st.abandon.program.active = st.program.active ∧ st.abandon.ladder.active = st.ladder.active ∧
    st.abandon.tier.active = st.tier.active ∧ st.abandon.thermal.active = st.thermal.active ∧
    st.abandon.retention.active = st.retention.active ∧ st.abandon.correction.active = st.correction.active := by
  unfold TableStore.abandon
  split
  · exact ⟨rfl, rfl, rfl, rfl, rfl, rfl, rfl⟩
  · rename_i tr _
    cases tr.table <;> exact ⟨rfl, rfl, rfl, rfl, rfl, rfl, rfl⟩

/-! ### The end of an event for recorder rail and heater -/

theorem concludeLoads_rails (before s : State) : (State.concludeLoads before s).rails =
    { s.rails with recorder := s.recorderLevel, heater := s.heaterLevel } := by
  simp [State.concludeLoads]

/-- The converter's part of an end of event; latch, tier and results stay. -/
theorem concludeLoads_meas (before s : State) : (State.concludeLoads before s).meas =
    { s.meas with
      converting := (State.concludeLoads before s).meas.converting
      conversion := (State.concludeLoads before s).meas.conversion
      requests := (State.concludeLoads before s).meas.requests
      blanking := (State.concludeLoads before s).meas.blanking } :=
  reportEdges_meas before s.driveLoads

theorem concludeLoads_sagLatch (before s : State) : (State.concludeLoads before s).meas.sagLatch = s.meas.sagLatch := by
  rw [concludeLoads_meas]

theorem concludeLoads_tier (before s : State) : (State.concludeLoads before s).meas.tier = s.meas.tier := by
  rw [concludeLoads_meas]

theorem concludeLoads_recorder (before s : State) :
    (State.concludeLoads before s).rails.recorder = (State.concludeLoads before s).recorderLevel := by
  simp [State.recorderLevel, concludeLoads_rails]

theorem concludeLoads_heater (before s : State) :
    (State.concludeLoads before s).rails.heater = (State.concludeLoads before s).heaterLevel := by
  have bans : (State.concludeLoads before s).tierBansHeat = s.tierBansHeat :=
    tierBansHeat_congr (concludeLoads_tier before s) (by simp)
  simp [State.heaterLevel, concludeLoads_rails, concludeLoads_sagLatch, bans]

theorem concludeLoads_captureLevel (before s : State) : (State.concludeLoads before s).captureLevel = s.captureLevel := by
  have forbids : (State.concludeLoads before s).bandForbids = s.bandForbids :=
    bandForbids_congr (by rw [concludeLoads_rails]) (by simp)
  simp only [State.captureLevel, concludeLoads_rails, forbids, concludeLoads_time, concludeLoads_settings]

/-! ### Capture edges (07 R132) -/

theorem driveCapture_same {s : State} (same : s.captureLevel = s.rails.capture) (why : SkipReason) :
    s.driveCapture why = s := if_pos same

theorem driveCapture_off {s : State} (on : s.rails.capture = true) (off : s.captureLevel = false) (why : SkipReason) :
    s.driveCapture why = s.captureOff why := by
  simp [State.driveCapture, on, off]

theorem driveCapture_on {s : State} (off : s.rails.capture = false) (on : s.captureLevel = true) (why : SkipReason) :
    s.driveCapture why = s.captureOn := by
  simp [State.driveCapture, on, off]

theorem conclude_capture (why : SkipReason) (before s : State) :
    (State.conclude why before s).rails.capture = s.captureLevel := by
  rw [State.conclude, concludeLoads_rails]
  simp only [sessionAfter_rails]
  rw [driveCapture_rails]

theorem conclude_demand (why : SkipReason) (before s : State) :
    (State.conclude why before s).rails.demand = (s.driveCapture why).rails.demand := by
  rw [State.conclude, concludeLoads_rails]
  simp only [sessionAfter_rails]

theorem refreshDemand_captureLevel (s : State) : s.refreshDemand.captureLevel =
    (decide (s.time.domain = .run) && !s.rails.moduleLatch && !s.bandForbids && !s.rails.cycleHold &&
      (match s.settings.captureMode with
       | .on => true
       | .off => false
       | .auto => s.starting || (s.rails.demand && s.keepWarm))) := rfl

theorem starting_iff (s : State) : s.starting = true ↔
    s.rails.warmUp = true ∨ s.sched.slot ≠ none ∨ s.queue.records ≠ [] ∨ s.queue.relay = .inProgress := by
  simp [State.starting, Option.isSome_iff_ne_none, or_assoc]

theorem keepWarm_iff (s : State) :
    s.keepWarm = true ↔ ∃ n, s.rails.timeToNext = some n ∧ n ≤ (s.settings.keepWarm : Int) := by
  unfold State.keepWarm
  cases s.rails.timeToNext <;> simp

/-- After an off edge the warm-up demand is the only starting source left (07 R128, R132). -/
theorem captureOff_demand (s : State) (why : SkipReason) :
    (s.captureOff why).rails.demand = (s.rails.warmUp || (s.rails.demand && s.keepWarm)) := by
  simp [State.captureOff, State.starting, State.keepWarm]

/-- Without an off edge the demand is kept. -/
theorem driveCapture_demand {s : State} (noOff : ¬ (s.rails.capture = true ∧ s.captureLevel = false)) (why : SkipReason) :
    (s.driveCapture why).rails.demand = s.rails.demand := by
  cases capture : s.rails.capture <;> cases level : s.captureLevel
  · rw [driveCapture_same (by rw [capture, level])]
  · rw [driveCapture_on capture level]; simp
  · exact absurd ⟨capture, level⟩ noOff
  · rw [driveCapture_same (by rw [capture, level])]

/-- The demand at the end of an event without a presentation. -/
theorem conclude_demand_kept (why : SkipReason) (before s : State)
    (noOff : ¬ (s.rails.capture = true ∧ (State.conclude why before s).rails.capture = false)) :
    (State.conclude why before s).rails.demand = s.rails.demand := by
  rw [conclude_capture] at noOff
  rw [conclude_demand, driveCapture_demand noOff]

theorem conclude_demand_off (why : SkipReason) (before s : State) (on : s.rails.capture = true)
    (off : (State.conclude why before s).rails.capture = false) :
    (State.conclude why before s).rails.demand = (s.rails.warmUp || (s.rails.demand && s.keepWarm)) := by
  rw [conclude_capture] at off
  rw [conclude_demand, driveCapture_off on off, captureOff_demand]

/-! ### The levels at the end of an event -/

theorem sessionAfter_active (s : State) : s.sessionAfter.store.thermal.active = s.store.thermal.active ∧
    s.sessionAfter.store.tier.active = s.store.tier.active := by
  obtain same | given := sessionAfter_store s
  · exact ⟨by rw [same], by rw [same]⟩
  · obtain ⟨-, -, -, tier, thermal, -⟩ := abandon_active s.store
    exact ⟨by rw [given, thermal], by rw [given, tier]⟩

/-- The end of an event leaves what the capture chain reads, but for the demand. -/
theorem conclude_bandForbids (why : SkipReason) (before s : State) :
    (State.conclude why before s).bandForbids = s.bandForbids := by
  refine bandForbids_congr ?_ ?_
  · rw [State.conclude, concludeLoads_rails]
    simp only [sessionAfter_rails]
    rw [driveCapture_rails]
  · rw [State.conclude, concludeLoads_store, (sessionAfter_active _).1, driveCapture_store]

theorem conclude_chain (why : SkipReason) (before s : State) :
    (State.conclude why before s).rails.moduleLatch = s.rails.moduleLatch ∧
      (State.conclude why before s).rails.cycleHold = s.rails.cycleHold := by
  simp only [State.conclude, concludeLoads_rails, sessionAfter_rails]
  rw [driveCapture_rails]
  exact ⟨rfl, rfl⟩

/-- The capture rail is off, or on at its level: the demand is given up at an off edge alone. -/
theorem conclude_captureLevel (why : SkipReason) (before s : State)
    (on : (State.conclude why before s).rails.capture = true) : (State.conclude why before s).captureLevel = true := by
  have kept := conclude_demand_kept why before s (by rw [on]; simp)
  obtain ⟨latch, hold⟩ := conclude_chain why before s
  rw [conclude_capture] at on
  rw [captureLevel_iff] at on ⊢
  rw [conclude_bandForbids, latch, hold, kept]
  simpa using on

/-- An end of an event that presents: the rail stands at the level of the demand that it leaves (07 R128). -/
theorem settle_captureLevel (why : SkipReason) (before s : State) :
    (State.settle why before s).rails.capture = (State.settle why before s).captureLevel := by
  cases on : (State.settle why before s).rails.capture with
  | true => exact (conclude_captureLevel why before s.refreshDemand on).symm
  | false =>
    symm
    by_contra level
    have high : (State.settle why before s).captureLevel = true := by simpa using level
    obtain ⟨latch, hold⟩ := conclude_chain why before s.refreshDemand
    have low : s.refreshDemand.captureLevel = false := by
      rw [← conclude_capture why before]; exact on
    rw [captureLevel_iff] at high
    rw [State.settle, conclude_bandForbids, latch, hold] at high
    have demand : (State.conclude why before s.refreshDemand).rails.demand = true → s.refreshDemand.rails.demand = true := by
      intro left
      cases was : s.rails.capture with
      | true =>
        rw [conclude_demand_off why before s.refreshDemand was on] at left
        simp only [refreshDemand_rails, Bool.or_eq_true, Bool.and_eq_true] at left ⊢
        obtain warm | ⟨both, -⟩ := left
        · exact .inl ((starting_iff s).mpr (.inl warm))
        · exact both
      | false =>
        rwa [conclude_demand_kept why before s.refreshDemand (by simp [was])] at left
    have level' : s.refreshDemand.captureLevel = true := by
      rw [captureLevel_iff]
      obtain ⟨run, noLatch, permitted, noHold, mode⟩ := high
      refine ⟨by simpa using run, noLatch, permitted, noHold, ?_⟩
      obtain forced | ⟨auto, left⟩ := mode
      · exact .inl (by simpa using forced)
      · exact .inr ⟨by simpa using auto, demand left⟩
    rw [level'] at low
    cases low

end Sys2Proof.Machine
end

section
/-! PROOF. What the end of an event leaves alone, sets and flushes: the statements (07 R126 to R132; log 7). -/

namespace Sys2Proof.Machine

/-! ### Counters of the end of an event -/

theorem put_value_of_ne {cs : Counters} {k j : Counter} {v : Word16} (other : j ≠ k) : (cs.put k v).value j = cs.value j := by
  rw [value_put, if_neg other]

/-- Ending a pending shot counts its skip reason, when there is one. -/
theorem endPending_counters (why : SkipReason) (s : State) : (s.endPending why).counters =
    if s.sched.slot = none then s.counters
    else s.counters.put why.counter (satInc (s.counters.value why.counter)) := by
  unfold State.endPending
  split
  · rename_i empty
    rw [if_pos empty]
  · rename_i p slot
    rw [if_neg (by rw [slot]; exact nofun)]
    rfl

theorem captureOff_counters (why : SkipReason) (s : State) :
    (s.captureOff why).counters = (s.flush.endPending why).counters := rfl

theorem driveCapture_value (why : SkipReason) (s : State) {k : Counter} (notLost : k ≠ .lost) (notWhy : k ≠ why.counter) :
    (s.driveCapture why).counters.value k = s.counters.value k := by
  unfold State.driveCapture
  split
  · rfl
  · split
    · rfl
    · rw [captureOff_counters, endPending_counters]
      split
      · rw [flush_counters, put_value_of_ne notLost]
      · rw [put_value_of_ne notWhy, flush_counters, put_value_of_ne notLost]

theorem sessionAfter_value (s : State) {k : Counter} (other : k ≠ .outOfSession) :
    s.sessionAfter.counters.value k = s.counters.value k := by
  obtain same | counted := sessionAfter_counters s
  · rw [same]
  · rw [counted, put_value_of_ne other]

theorem spoil_value (s : State) {k : Counter} (other : k ≠ .spoiledConversions) :
    s.spoil.counters.value k = s.counters.value k := by
  unfold State.spoil
  split
  · rfl
  · exact put_value_of_ne other

theorem concludeLoads_value (before s : State) {k : Counter} (other : k ≠ .spoiledConversions) :
    (State.concludeLoads before s).counters.value k = s.counters.value k := by
  unfold State.concludeLoads State.reportEdges
  split
  · rw [arbitrate_counters, spoil_value _ other]
    simp
  · simp

theorem conclude_value (why : SkipReason) (before s : State) {k : Counter} (notLost : k ≠ .lost) (notWhy : k ≠ why.counter)
    (notSpoiled : k ≠ .spoiledConversions) (notOut : k ≠ .outOfSession) :
    (State.conclude why before s).counters.value k = s.counters.value k := by
  rw [State.conclude, concludeLoads_value _ _ notSpoiled, sessionAfter_value _ notOut, driveCapture_value _ _ notLost notWhy]

/-- Outside CLOSING the end of an event counts no packet out of session. -/
theorem conclude_outOfSession (why : SkipReason) (before : State) {s : State} (open_ : s.session.state ≠ .closing) :
    (State.conclude why before s).store = s.store ∧
      (State.conclude why before s).counters.outOfSession = s.counters.outOfSession := by
  have still : (s.driveCapture why).session.state ≠ .closing := by simpa using open_
  refine ⟨?_, ?_⟩
  · rw [State.conclude, concludeLoads_store, sessionAfter_not_closing_store still, driveCapture_store]
  · have spoiled := concludeLoads_value before (s.driveCapture why).sessionAfter (k := .outOfSession) (by decide)
    have flushed := driveCapture_value why s (k := .outOfSession) (by decide) (by cases why <;> decide)
    rw [sessionAfter_not_closing_counters still] at spoiled
    exact spoiled.trans flushed

/-- Recorder rail, heater and their edges reach nothing but the outputs, the converter and one counter. -/
theorem concludeLoads_eq (before s : State) : State.concludeLoads before s =
    { s with
      rails := (State.concludeLoads before s).rails, meas := (State.concludeLoads before s).meas
      counters := (State.concludeLoads before s).counters } := by
  unfold State.concludeLoads State.reportEdges State.openBlanking State.spoil State.arbitrate
  split
  · split <;> split <;> split <;> rfl
  · rfl

/-- Settles O9: the frames, counter by counter, and the loads' own end of event. -/
theorem endOfEventFrame : Obligations.EndOfEventFrame := by
  refine ⟨fun why before s => ⟨conclude_frame why before s, settle_frame why before s, fun k a b c d => ?_⟩,
    fun why before s t ends notClosing => ?_, fun before s => ⟨?_, fun k other => concludeLoads_value before s other⟩⟩
  · exact ⟨conclude_value why before s a b c d, conclude_value why before s.refreshDemand a b c d⟩
  · obtain rfl | rfl := ends
    · exact conclude_outOfSession why before notClosing
    · exact conclude_outOfSession why before (s := s.refreshDemand) notClosing
  · have rails := concludeLoads_rails before s
    have meas := concludeLoads_meas before s
    rw [concludeLoads_eq]
    congr 1
    rw [rails]

/-- Settles O10: recorder rail and heater by their levels, the capture rail by its own, the demand by the off edge. -/
theorem outputsTakeChainLevels : Obligations.OutputsTakeChainLevels := by
  refine ⟨fun why before s t ends => ?_, fun why before s => ⟨?_, ?_, ?_, ?_, ?_, ?_, ?_⟩⟩
  · have loads : t.rails.recorder = t.recorderLevel ∧ t.rails.heater = t.heaterLevel := by
      obtain rfl | rfl | rfl := ends <;> exact ⟨concludeLoads_recorder _ _, concludeLoads_heater _ _⟩
    rw [loads.1, loads.2]
    exact ⟨recorderLevel_iff t, heaterLevel_iff t⟩
  · rw [settle_captureLevel]
    exact captureLevel_iff _
  · rw [conclude_capture]
    exact captureLevel_iff s
  · rw [concludeLoads_rails]
  · intro noOff
    rw [State.settle, conclude_demand_kept why before s.refreshDemand noOff, ← starting_iff, ← keepWarm_iff]
    simp
  · intro on off
    rw [State.settle, conclude_demand_off why before s.refreshDemand on off, ← starting_iff, ← keepWarm_iff,
      show s.refreshDemand.keepWarm = s.keepWarm from rfl]
    simp only [refreshDemand_rails, Bool.or_eq_true, Bool.and_eq_true]
    tauto
  · exact conclude_demand_kept why before s
  · intro on off
    rw [conclude_demand_off why before s on off, ← keepWarm_iff]
    simp

end Sys2Proof.Machine
end

section
/-! PROOF. What the edges of the capture rail do to the queue, the S-link and the pending shot (04 R63, R68, 07 R132, 02 R25). -/

namespace Sys2Proof.Machine

/-! ### The session's part of an end of event, at the queue -/

/-- The offer test finds nothing in an empty queue. -/
theorem offerTest_empty {s : State} (empty : s.queue.records = []) : s.offerTest = s := by
  have nothing : s.offerCandidate = none := by
    simp [State.offerCandidate, ShotQueue.oldest, empty]
  rw [State.offerTest, nothing]

theorem offerTest_queue (s : State) : s.offerTest.queue = { s.queue with records := s.offerTest.queue.records } := by
  unfold State.offerTest
  split <;> rfl

/-- The session's end of an event changes records of the queue alone, in AWAKE alone, and none of an empty queue. -/
theorem sessionAfter_queue (s : State) :
    s.sessionAfter.queue = { s.queue with records := s.sessionAfter.queue.records } ∧
      (s.session.state ≠ .awake ∨ s.queue.records = [] → s.sessionAfter.queue = s.queue) := by
  unfold State.sessionAfter
  split
  · rename_i awake
    refine ⟨by simpa using offerTest_queue s.cancelOffer, ?_⟩
    rintro (other | empty)
    · exact absurd awake other
    · rw [offerTest_empty (by simpa using empty)]
      simp
  · split <;> simp
  · simp
  · simp

theorem conclude_queue (why : SkipReason) (before s : State) :
    (State.conclude why before s).queue = (s.driveCapture why).sessionAfter.queue := by
  rw [State.conclude, concludeLoads_queue]

theorem conclude_slink (why : SkipReason) (before s : State) :
    (State.conclude why before s).slink = (s.driveCapture why).slink := by
  rw [State.conclude, concludeLoads_slink, sessionAfter_slink]

theorem conclude_sched (why : SkipReason) (before s : State) :
    (State.conclude why before s).sched = (s.driveCapture why).sched := by
  rw [State.conclude, concludeLoads_sched, sessionAfter_sched]

/-- A counter that neither the session's end nor a spoiled conversion counts is left by the capture rail's part. -/
theorem conclude_value_driveCapture (why : SkipReason) (before s : State) {k : Counter} (notSpoiled : k ≠ .spoiledConversions)
    (notOut : k ≠ .outOfSession) :
    (State.conclude why before s).counters.value k = (s.driveCapture why).counters.value k := by
  rw [State.conclude, concludeLoads_value _ _ notSpoiled, sessionAfter_value _ notOut]

theorem skip_counter_ne (why : SkipReason) :
    why.counter ≠ .spoiledConversions ∧ why.counter ≠ .outOfSession ∧ why.counter ≠ .lost := by
  cases why <;> decide

/-! ### The off edge -/

section OffEdge

variable (why : SkipReason) (before : State) {s : State} (on : s.rails.capture = true) (off : s.captureLevel = false)
include on off

theorem conclude_queue_off : (State.conclude why before s).queue = { s.queue with
    records := [], module := .unpowered, bootTimer := .idle, deadline := .idle, deliveryTimer := .idle
    relay := .idle, relayLimit := .idle } := by
  have flushed := captureOff_queue s why
  rw [conclude_queue, driveCapture_off on off, (sessionAfter_queue _).2 (.inr (by rw [flushed]))]
  exact flushed

theorem conclude_slink_off : (State.conclude why before s).slink = { s.slink with rx := [], tx := [] } := by
  rw [conclude_slink, driveCapture_slink, if_pos ⟨on, off⟩]

theorem conclude_slot_off : (State.conclude why before s).sched.slot = none := by
  rw [conclude_sched, driveCapture_off on off, captureOff_sched]

theorem conclude_lost_off : (State.conclude why before s).counters.lost =
    satAdd s.counters.lost s.queue.records.length := by
  have lost := conclude_value_driveCapture why before s (k := .lost) (by decide) (by decide)
  rw [driveCapture_off on off, captureOff_counters, endPending_counters] at lost
  refine lost.trans ?_
  have other : Counter.lost ≠ why.counter := (skip_counter_ne why).2.2.symm
  rw [apply_ite (fun c => Counters.value c .lost), put_value_of_ne other, ite_self, flush_counters]
  exact value_put_self _ _ _

theorem conclude_skip_off : (State.conclude why before s).counters.value why.counter =
    if s.sched.slot = none then s.counters.value why.counter else satInc (s.counters.value why.counter) := by
  obtain ⟨notSpoiled, notOut, notLost⟩ := skip_counter_ne why
  rw [conclude_value_driveCapture why before s notSpoiled notOut, driveCapture_off on off, captureOff_counters,
    endPending_counters, flush_sched, flush_counters, put_value_of_ne notLost]
  split
  · rw [put_value_of_ne notLost]
  · rw [value_put_self]

end OffEdge

/-! ### Without an off edge -/

section NoOffEdge

variable (why : SkipReason) (before : State) {s : State}
  (noOff : ¬ (s.rails.capture = true ∧ s.captureLevel = false))
include noOff

/-- The capture rail's part of an end of event without an off edge: nothing, or a boot. -/
theorem driveCapture_noOff : s.driveCapture why = s ∨ s.driveCapture why = s.captureOn := by
  cases capture : s.rails.capture <;> cases level : s.captureLevel
  · exact .inl (driveCapture_same (by rw [capture, level]) why)
  · exact .inr (driveCapture_on capture level why)
  · exact absurd ⟨capture, level⟩ noOff
  · exact .inl (driveCapture_same (by rw [capture, level]) why)

theorem conclude_slink_noOff : (State.conclude why before s).slink = s.slink := by
  rw [conclude_slink, driveCapture_slink, if_neg noOff]

theorem conclude_slot_noOff : (State.conclude why before s).sched.slot = s.sched.slot := by
  rw [conclude_sched]
  obtain same | boot := driveCapture_noOff why noOff
  · rw [same]
  · rw [boot, captureOn_sched]

theorem conclude_queue_noOff : (State.conclude why before s).queue = { s.queue with
    records := (State.conclude why before s).queue.records, module := (State.conclude why before s).queue.module
    bootTimer := (State.conclude why before s).queue.bootTimer } := by
  rw [conclude_queue, (sessionAfter_queue _).1]
  obtain same | boot := driveCapture_noOff why noOff
  · rw [same]
  · rw [boot, captureOn_queue]

theorem conclude_records_noOff (notAwake : s.session.state ≠ .awake) :
    (State.conclude why before s).queue.records = s.queue.records := by
  rw [conclude_queue, (sessionAfter_queue _).2 (.inl (by simpa using notAwake))]
  obtain same | boot := driveCapture_noOff why noOff
  · rw [same]
  · rw [boot, captureOn_queue]

theorem conclude_value_noOff {k : Counter} (notSpoiled : k ≠ .spoiledConversions) (notOut : k ≠ .outOfSession) :
    (State.conclude why before s).counters.value k = s.counters.value k := by
  rw [conclude_value_driveCapture why before s notSpoiled notOut]
  obtain same | boot := driveCapture_noOff why noOff
  · rw [same]
  · rw [boot, captureOn_counters]

end NoOffEdge

/-- The on edge starts a boot (04 R63). -/
theorem conclude_boot (why : SkipReason) (before : State) {s : State} (off : s.rails.capture = false)
    (on : s.captureLevel = true) : (State.conclude why before s).queue.module = .booting ∧
      (State.conclude why before s).queue.bootTimer = Timer.start s.settings.bootLimit := by
  rw [conclude_queue, (sessionAfter_queue _).1, driveCapture_on off on, captureOn_queue]
  exact ⟨rfl, rfl⟩

theorem conclude_noEdge (why : SkipReason) (before : State) {s : State} (same : s.captureLevel = s.rails.capture) :
    (State.conclude why before s).queue.module = s.queue.module ∧
      (State.conclude why before s).queue.bootTimer = s.queue.bootTimer := by
  rw [conclude_queue, (sessionAfter_queue _).1, driveCapture_same same]
  exact ⟨rfl, rfl⟩

/-- Settles O11: off edge, on edge and no edge, for an end of event; a presentation changes none of what is spoken of. -/
theorem captureEdgesReachTheQueue : Obligations.CaptureEdgesReachTheQueue := by
  refine ⟨conclude_capture, fun why before s t ends => ?_⟩
  obtain ⟨x, rfl, sched, queue, slink, counters, settings, session, capture⟩ : ∃ x, t = State.conclude why before x ∧
      x.sched = s.sched ∧ x.queue = s.queue ∧ x.slink = s.slink ∧ x.counters = s.counters ∧ x.settings = s.settings ∧
      x.session = s.session ∧ x.rails.capture = s.rails.capture := by
    obtain rfl | rfl := ends
    · exact ⟨s, rfl, rfl, rfl, rfl, rfl, rfl, rfl, rfl⟩
    · exact ⟨s.refreshDemand, rfl, rfl, rfl, rfl, rfl, rfl, rfl, rfl⟩
  rw [conclude_capture, ← capture, ← sched, ← queue, ← slink, ← counters, ← settings, ← session]
  refine ⟨fun on off => ⟨?_, ?_, ?_, ?_, fun filled => ?_, fun empty => ?_, ?_, ?_⟩, ?_, ?_, fun noOff => ⟨?_, ?_, ?_, ?_, ?_, ?_⟩⟩
  · exact conclude_queue_off why before on off
  · exact conclude_slink_off why before on off
  · exact conclude_slot_off why before on off
  · exact conclude_lost_off why before on off
  · rw [conclude_skip_off why before on off, if_neg filled]
  · rw [conclude_skip_off why before on off, if_pos empty]
  · rintro filled rfl
    exact (conclude_skip_off .module before on off).trans (if_neg filled)
  · rintro filled rfl
    exact (conclude_skip_off .protection before on off).trans (if_neg filled)
  · exact conclude_boot why before
  · exact conclude_noEdge why before
  · exact conclude_slink_noOff why before noOff
  · exact conclude_slot_noOff why before noOff
  · exact conclude_queue_noOff why before noOff
  · exact conclude_records_noOff why before noOff
  · exact conclude_value_noOff why before noOff (k := .lost) (by decide) (by decide)
  · exact conclude_value_noOff why before noOff (skip_counter_ne why).1 (skip_counter_ne why).2.1

end Sys2Proof.Machine
end

section
/-! PROOF. The outputs stay at or below their chains (07 R126): an end of an event sets them to their levels, and what happens
without one changes nothing that a chain reads. -/

namespace Sys2Proof.Machine

/-! ### A capture rail that is off -/

/-- A capture rail that is off leaves no record and an UNPOWERED module; so it does within an event too. -/
theorem keptByAll_captureOff : KeptByAll (fun _ _ => True)
    (fun s => s.rails.capture = false → s.queue.records = [] ∧ s.queue.module = .unpowered) where
  quiet _ _ _ _ _ _ _ h := h
  sched _ _ _ h := h
  time _ _ _ _ h := h
  wakes _ _ h := h
  age _ _ h := h
  inRun _ _ _ _ same h off := h (same.symm.trans off)
  unlatch _ h := h
  settings _ _ _ h := h
  sendP _ _ _ h := h
  sendS _ _ _ h := h
  session _ _ _ _ h := h
  leaveSession _ _ h := h
  queue _ _ _ module records _ h off := ⟨records (h off).1, module.trans (h off).2⟩
  forget _ h := h
  booted _ _ booting h off := by cases booting.symm.trans (h off).2
  issue _ _ _ ready _ h off := by cases ready.symm.trans (h off).2
  driveCapture s why _ h off := by
    have level : s.captureLevel = false := by rw [driveCapture_rails] at off; exact off
    cases was : s.rails.capture with
    | true =>
      rw [driveCapture_off was level, captureOff_queue]
      exact ⟨rfl, rfl⟩
    | false =>
      rw [driveCapture_same (by rw [was, level])]
      exact h was
  exchange _ tables _ h off := by
    refine h ?_
    simp only [State.exchangeTables] at off
    split at off <;> exact off
  store _ _ _ _ h := h
  receiver _ _ _ _ _ h := by simpa using h
  arrive _ _ _ _ _ h := by simpa using h
  handed _ _ _ _ handed h := by
    obtain ⟨rx, rfl, -⟩ := handed_rx handed
    simpa using h
  sent _ _ _ _ _ _ h := by simpa using h
  enterReset _ _ _ := ⟨rfl, rfl⟩
  enterPowerBad _ _ _ := by simp [State.holdMain]
  release _ _ h := h
  stayHeld _ _ _ h := h
  cold _ _ _ := ⟨rfl, rfl⟩
  accepts _ _ _ := trivial

/-! ### Levels -/

/-- The capture rail stands at or below the level of its chain. -/
def CaptureSafe (s : State) : Prop := s.rails.capture = true → s.captureLevel = true

/-- The three outputs stand at or below the levels of their chains, the recorder rail at it. -/
def LevelsSafe (s : State) : Prop :=
  CaptureSafe s ∧ (s.rails.heater = true → s.heaterLevel = true) ∧ s.rails.recorder = s.recorderLevel

theorem outputsSafe_iff (s : State) : OutputsSafe s ↔
    LevelsSafe s ∧ (s.rails.capture = false → s.queue.records = [] ∧ s.queue.module = .unpowered) :=
  ⟨fun ⟨capture, heater, recorder, off⟩ => ⟨⟨capture, heater, recorder⟩, off⟩,
    fun ⟨⟨capture, heater, recorder⟩, off⟩ => ⟨capture, heater, recorder, off⟩⟩

/-- An end of an event for recorder rail and heater sets these two, and leaves the capture rail and its chain. -/
theorem levelsSafe_concludeLoads (before : State) {s : State} (h : CaptureSafe s) :
    LevelsSafe (State.concludeLoads before s) := by
  refine ⟨fun on => ?_, fun on => ?_, concludeLoads_recorder before s⟩
  · rw [concludeLoads_rails] at on
    rw [concludeLoads_captureLevel]
    exact h on
  · rw [← concludeLoads_heater]
    exact on

/-- An end of an event that may move the capture rail sets all three. -/
theorem levelsSafe_conclude (why : SkipReason) (before s : State) : LevelsSafe (State.conclude why before s) :=
  ⟨conclude_captureLevel why before s, fun on => by rw [State.conclude, ← concludeLoads_heater]; exact on,
    concludeLoads_recorder _ _⟩

theorem levelsSafe_settle (why : SkipReason) (before s : State) : LevelsSafe (State.settle why before s) :=
  levelsSafe_conclude why before s.refreshDemand

theorem levelsSafe_settleIfPresented (why : SkipReason) (before s : State) :
    LevelsSafe (State.settleIfPresented why before s) := by
  unfold State.settleIfPresented
  split
  · exact levelsSafe_settle why before s
  · exact levelsSafe_conclude why before s

/-- Outside RUN the levels are all off. -/
theorem levelsSafe_held {s : State} (held : s.time.domain ≠ .run) :
    LevelsSafe s ↔ s.rails.capture = false ∧ s.rails.heater = false ∧ s.rails.recorder = false := by
  simp [LevelsSafe, CaptureSafe, captureLevel_iff, heaterLevel_iff, State.recorderLevel, held]

theorem captureSafe_congr {s t : State} (h : CaptureSafe s) (time : t.time.domain = s.time.domain) (rails : t.rails = s.rails)
    (bank : t.store.thermal.active = s.store.thermal.active) (mode : t.settings.captureMode = s.settings.captureMode) :
    CaptureSafe t := by
  have forbids : t.bandForbids = s.bandForbids := bandForbids_congr (by rw [rails]) bank
  simpa only [CaptureSafe, State.captureLevel, time, rails, forbids, mode] using h

/-- A change that leaves what the chains read, and orders no record, keeps the outputs safe. -/
theorem levelsSafe_congr {s t : State} (h : LevelsSafe s) (time : t.time = s.time) (rails : t.rails = s.rails)
    (thermal : t.store.thermal.active = s.store.thermal.active) (tier : t.store.tier.active = s.store.tier.active)
    (modes : t.settings.captureMode = s.settings.captureMode ∧ t.settings.heaterMode = s.settings.heaterMode)
    (meas : t.meas.sagLatch = s.meas.sagLatch ∧ t.meas.tier = s.meas.tier)
    (session : t.session.state = .off ↔ s.session.state = .off)
    (ordered : t.queue.has .ordered = true → s.queue.has .ordered = true) : LevelsSafe t := by
  obtain ⟨capture, heater, recorder⟩ := h
  have bans : t.tierBansHeat = s.tierBansHeat := tierBansHeat_congr meas.2 tier
  refine ⟨captureSafe_congr capture (by rw [time]) rails thermal modes.1, fun on => ?_, ?_⟩
  · rw [rails] at on
    have before := (heaterLevel_iff s).mp (heater on)
    obtain ⟨run, free, rest⟩ := before
    rw [heaterLevel_iff, time, bans, rails, meas.1, modes.2]
    exact ⟨run, by by_contra some_; exact absurd (ordered (by simpa using some_)) (by rw [free]; decide), rest⟩
  · rw [rails, recorder, State.recorderLevel, State.recorderLevel, time]
    simp only [session]

theorem levelsSafe_arbitrate {s : State} (h : LevelsSafe s) : LevelsSafe s.arbitrate := by
  unfold State.arbitrate
  split <;> exact h

theorem captureSafe_arbitrate {s : State} (h : CaptureSafe s) : CaptureSafe s.arbitrate := by
  unfold State.arbitrate
  split <;> exact h

/-! ### Records that move orders none -/

theorem has_ordered_alter {q : ShotQueue} {tag : Byte} {f : ShotRecord → ShotRecord} (moved : ∀ r, (f r).state ≠ .ordered)
    (h : (q.alter tag f).has .ordered = true) : q.has .ordered = true := by
  simp only [ShotQueue.has, ShotQueue.alter, List.any_map, List.any_eq_true, Function.comp_apply,
    decide_eq_true_eq] at h ⊢
  obtain ⟨r, mem, ordered⟩ := h
  split at ordered
  · exact absurd ordered (moved r)
  · exact ⟨r, mem, ordered⟩

theorem has_ordered_moveAll {q : ShotQueue} {a b : RecState} (other : b ≠ .ordered)
    (h : (q.moveAll a b).has .ordered = true) : q.has .ordered = true := by
  simp only [ShotQueue.has, ShotQueue.moveAll, List.any_map, List.any_eq_true, Function.comp_apply,
    decide_eq_true_eq] at h ⊢
  obtain ⟨r, mem, ordered⟩ := h
  split at ordered
  · exact absurd ordered other
  · exact ⟨r, mem, ordered⟩

/-- READY's report and offer (06 R110, R118). -/
theorem levelsSafe_statusThenOffer {s : State} (h : LevelsSafe s) : LevelsSafe s.statusThenOffer := by
  unfold State.statusThenOffer
  split
  · exact h
  · exact levelsSafe_congr h rfl rfl rfl rfl ⟨rfl, rfl⟩ ⟨rfl, rfl⟩ Iff.rfl (has_ordered_alter fun _ => nofun)

/-! ### The Table Store's changes leave the active banks (09 R167 to R170) -/

theorem levelsSafe_store {s : State} (h : LevelsSafe s) (st : TableStore)
    (thermal : st.thermal.active = s.store.thermal.active) (tier : st.tier.active = s.store.tier.active) :
    LevelsSafe { s with store := st } :=
  levelsSafe_congr h rfl rfl thermal tier ⟨rfl, rfl⟩ ⟨rfl, rfl⟩ Iff.rfl id

theorem levelsSafe_abandon {s : State} (h : LevelsSafe s) : LevelsSafe s.abandonLoad := by
  obtain ⟨-, -, -, tier, thermal, -⟩ := abandon_active s.store
  exact levelsSafe_store h _ thermal tier

theorem emptyStaged_active (st : TableStore) (t : Table) :
    (st.emptyStaged t).thermal.active = st.thermal.active ∧ (st.emptyStaged t).tier.active = st.tier.active := by
  cases t <;> exact ⟨rfl, rfl⟩

theorem sealStaged_active (st : TableStore) (t : Table) (check : Word16) :
    (st.sealStaged t check).thermal.active = st.thermal.active ∧
      (st.sealStaged t check).tier.active = st.tier.active := by
  cases t <;> exact ⟨rfl, rfl⟩

theorem storeRow_active {st st' : TableStore} {t : Table} {fields : List Byte} (h : st.storeRow t fields = some st') :
    st'.thermal.active = st.thermal.active ∧ st'.tier.active = st.tier.active := by
  cases t <;> (obtain ⟨r, -, rfl⟩ := Option.map_eq_some_iff.mp h; exact ⟨rfl, rfl⟩)

end Sys2Proof.Machine
end

section
/-! PROOF. The outputs stay at or below their chains through every command: those with an end of an event, and those that
answer, count or load rows without one. -/

namespace Sys2Proof.Machine

/-! ### What is done with packets -/

section Bodies
variable {s : State}

theorem levelsSafe_serveHello (h : LevelsSafe s) : LevelsSafe s.serveHello := by
  unfold State.serveHello
  split
  · exact h
  · exact levelsSafe_settleIfPresented _ _ _
  · exact levelsSafe_settleIfPresented _ _ _

theorem levelsSafe_serveFrame (tag : Byte) (f : Facts) (h : LevelsSafe s) : LevelsSafe (s.serveFrame tag f) := by
  unfold State.serveFrame
  split
  · exact h
  · exact h
  · split
    · exact h
    · split
      · exact levelsSafe_settle _ _ _
      · exact h

theorem levelsSafe_serveFault (code : Byte) (h : LevelsSafe s) : LevelsSafe (s.serveFault code) := by
  unfold State.serveFault
  dsimp only
  split
  · exact h
  · exact levelsSafe_conclude _ _ _
  · exact levelsSafe_conclude _ _ _

theorem levelsSafe_serveDelivered (tag : Byte) (h : LevelsSafe s) : LevelsSafe (s.serveDelivered tag) := by
  unfold State.serveDelivered
  split
  · exact h
  · exact h
  · split
    · exact h
    · dsimp only
      split
      · exact h
      · exact levelsSafe_settle _ _ _
      · exact levelsSafe_settle _ _ _
      · exact levelsSafe_settle _ _ _

theorem levelsSafe_serveUndelivered (tag : Byte) (h : LevelsSafe s) : LevelsSafe (s.serveUndelivered tag) := by
  unfold State.serveUndelivered
  split
  · exact h
  · exact h
  · split
    · exact h
    · split
      · exact levelsSafe_settle _ _ _
      · exact h

theorem levelsSafe_serveModuleRelay (payload : List Byte) (h : LevelsSafe s) :
    LevelsSafe (s.serveModuleRelay payload) := by
  unfold State.serveModuleRelay
  split
  · exact h
  · exact h
  · split
    · exact levelsSafe_settle _ _ _
    · unfold State.passRelay
      split <;> exact h

theorem levelsSafe_serveReady (h : LevelsSafe s) : LevelsSafe s.serveReady := by
  have again : LevelsSafe s.readyAgain := by
    obtain ⟨-, -, -, tier, thermal, -⟩ := abandon_active s.store
    exact levelsSafe_statusThenOffer
      (levelsSafe_congr h rfl rfl thermal tier ⟨rfl, rfl⟩ ⟨rfl, rfl⟩ Iff.rfl (has_ordered_moveAll nofun))
  unfold State.serveReady
  split
  · exact h
  · rename_i waking
    exact levelsSafe_statusThenOffer
      (levelsSafe_congr h rfl rfl rfl rfl ⟨rfl, rfl⟩ ⟨rfl, rfl⟩ (by rw [waking]; exact ⟨nofun, nofun⟩) id)
  · exact again
  · exact again

theorem levelsSafe_serveSleep (h : LevelsSafe s) : LevelsSafe s.serveSleep := by
  unfold State.serveSleep
  split
  · exact h
  · exact h
  · rename_i awake
    unfold State.sleepInAwake
    dsimp only
    split
    · exact levelsSafe_congr h rfl rfl rfl rfl ⟨rfl, rfl⟩ ⟨rfl, rfl⟩ (by rw [awake]; exact ⟨nofun, nofun⟩)
        (has_ordered_moveAll nofun)
    · exact levelsSafe_conclude _ _ _
  · exact h

theorem levelsSafe_claim (tag : Byte) (h : LevelsSafe s) : LevelsSafe (State.claim tag s) := by
  unfold State.claim
  split
  · exact levelsSafe_settle _ _ _
  · exact h

theorem levelsSafe_waive (tag : Byte) (h : LevelsSafe s) : LevelsSafe (State.waive tag s) := by
  unfold State.waive
  split
  · exact levelsSafe_settle _ _ _
  · exact h

/-- A clock set leaves the capture rail and its chain. -/
theorem captureSafe_afterClockSet (before : TimeBase) (h : CaptureSafe s) : CaptureSafe (State.afterClockSet before s) :=
  captureSafe_congr h (by simp [State.afterClockSet]) (by simp [State.afterClockSet]) (by simp [State.afterClockSet])
    (by simp [State.afterClockSet])

theorem captureSafe_takeTrip (h : CaptureSafe s) : CaptureSafe s.takeTrip := h

theorem levelsSafe_applySet (i : Item) (v : Word32) (h : LevelsSafe s) : LevelsSafe (s.applySet i v) := by
  have capture : CaptureSafe s := h.1
  cases i with
  | clock => exact levelsSafe_concludeLoads s (captureSafe_afterClockSet _ capture)
  | dayOffset => exact levelsSafe_concludeLoads s (captureSafe_afterClockSet _ capture)
  | capacity => exact levelsSafe_concludeLoads s (captureSafe_congr capture (by simp) (by simp) (by simp) (by simp; rfl))
  | captureMode => exact levelsSafe_conclude _ _ _
  | heaterMode => exact levelsSafe_concludeLoads s capture
  | sagEnable =>
    change LevelsSafe (s.setSagEnable v)
    unfold State.setSagEnable
    dsimp only
    split
    · exact levelsSafe_arbitrate (levelsSafe_concludeLoads s capture)
    · exact h
  | _ => exact h

theorem levelsSafe_serveSet (code : Byte) (v : Word32) (h : LevelsSafe s) : LevelsSafe (s.serveSet code v) := by
  unfold State.serveSet
  split
  · exact h
  · rename_i i _
    unfold State.setItem
    split
    · exact h
    · split
      · exact h
      · have answered : LevelsSafe (s.answer 0x10 .ok) := h
        exact levelsSafe_applySet i v answered

theorem levelsSafe_serveGet (code : Byte) (h : LevelsSafe s) : LevelsSafe (s.serveGet code) := by
  unfold State.serveGet
  split <;> exact h

theorem levelsSafe_serveClear (group : Byte) (h : LevelsSafe s) : LevelsSafe (s.serveClear group) := by
  unfold State.serveClear
  split
  · exact h
  · exact h
  · exact levelsSafe_conclude _ _ _
  · exact h

theorem levelsSafe_serveStart (h : LevelsSafe s) : LevelsSafe s.serveStart := by
  unfold State.serveStart
  split
  · exact h
  · dsimp only
    split
    · exact levelsSafe_settle _ _ _
    · exact levelsSafe_conclude _ _ _

theorem levelsSafe_serveStop (h : LevelsSafe s) : LevelsSafe s.serveStop := by
  unfold State.serveStop
  dsimp only
  split
  · exact h
  · exact levelsSafe_settle _ _ _

theorem levelsSafe_serveShoot (rung : Option Nat) (h : LevelsSafe s) : LevelsSafe (s.serveShoot rung) := by
  unfold State.serveShoot
  dsimp only
  split
  · exact levelsSafe_settle _ _ _
  · exact h

theorem levelsSafe_serveMeasure (channels : Byte) (h : LevelsSafe s) : LevelsSafe (s.serveMeasure channels) := by
  unfold State.serveMeasure
  split
  · exact h
  · rename_i r _
    have requested : LevelsSafe ((s.answer 0x16 .ok).request r) := h
    exact levelsSafe_arbitrate requested

theorem levelsSafe_serveRelay (payload : List Byte) (h : LevelsSafe s) : LevelsSafe (s.serveRelay payload) := by
  unfold State.serveRelay
  dsimp only
  split
  · exact levelsSafe_settle _ _ _
  · exact h

theorem levelsSafe_serveOpen (code : Byte) (h : LevelsSafe s) : LevelsSafe (s.serveOpen code) := by
  unfold State.serveOpen
  split
  · have answered : LevelsSafe (s.answer 0x19 .badSequence) := h
    exact levelsSafe_abandon answered
  · split
    · exact h
    · rename_i t _
      split
      · exact h
      · have answered : LevelsSafe (s.answer 0x19 .ok) := h
        obtain ⟨thermal, tier⟩ := emptyStaged_active s.store t
        exact levelsSafe_store answered _ thermal tier

theorem levelsSafe_serveRow (table number : Byte) (fields : List Byte) (h : LevelsSafe s) :
    LevelsSafe (s.serveRow table number fields) := by
  have answered (r : AnswerCode) : LevelsSafe (s.answer 0x1A r) := h
  unfold State.serveRow
  split
  · exact h
  · split
    · exact levelsSafe_abandon (answered _)
    · split
      · exact levelsSafe_abandon (answered _)
      · rename_i st stored
        obtain ⟨thermal, tier⟩ := storeRow_active stored
        exact levelsSafe_store (answered _) _ thermal tier

theorem levelsSafe_serveClose (count : Byte) (check : Word16) (h : LevelsSafe s) :
    LevelsSafe (s.serveClose count check) := by
  have answered (r : AnswerCode) : LevelsSafe (s.answer 0x1B r) := h
  unfold State.serveClose
  split
  · exact h
  · rename_i tr _
    split
    · obtain ⟨thermal, tier⟩ := sealStaged_active s.store tr.table check
      exact levelsSafe_store (answered _) _ thermal tier
    · exact levelsSafe_abandon (answered _)

theorem levelsSafe_serveCommit (tables point : Byte) (h : LevelsSafe s) : LevelsSafe (s.serveCommit tables point) := by
  unfold State.serveCommit
  split
  · exact h
  · dsimp only
    split
    · exact levelsSafe_conclude _ _ _
    · exact h

theorem levelsSafe_bodyOf (c : Instr) (h : LevelsSafe s) : LevelsSafe (bodyOf c s) := by
  cases c with
  | hello => exact levelsSafe_serveHello h
  | frame tag _ _ _ _ _ => exact levelsSafe_serveFrame tag _ h
  | delivered tag => exact levelsSafe_serveDelivered tag h
  | undelivered tag => exact levelsSafe_serveUndelivered tag h
  | fault code => exact levelsSafe_serveFault code h
  | moduleRelay payload => exact levelsSafe_serveModuleRelay payload h
  | ready => exact levelsSafe_serveReady h
  | sleep => exact levelsSafe_serveSleep h
  | claim tag => exact levelsSafe_claim tag h
  | waive tag => exact levelsSafe_waive tag h
  | setClock v => exact levelsSafe_serveSet 0 v h
  | setDayOffset v => exact levelsSafe_serveSet 1 v h
  | setCapacity v => exact levelsSafe_serveSet 2 v h
  | setCaptureMode v => exact levelsSafe_serveSet 16 v h
  | setHeaterMode v => exact levelsSafe_serveSet 17 v h
  | setSagThreshold v => exact levelsSafe_serveSet 20 v h
  | setSagEnable v => exact levelsSafe_serveSet 21 v h
  | setRampPosition v => exact levelsSafe_serveSet 26 v h
  | set item v => exact levelsSafe_serveSet item v h
  | get item => exact levelsSafe_serveGet item h
  | clearLatch => exact levelsSafe_conclude _ _ _
  | clear group => exact levelsSafe_serveClear group h
  | start => exact levelsSafe_serveStart h
  | stop => exact levelsSafe_serveStop h
  | shoot rung => exact levelsSafe_serveShoot _ h
  | measure channels => exact levelsSafe_serveMeasure channels h
  | relay payload => exact levelsSafe_serveRelay payload h
  | openTable table => exact levelsSafe_serveOpen table h
  | row table number fields => exact levelsSafe_serveRow table number fields h
  | close count check => exact levelsSafe_serveClose count check h
  | commit tables point => exact levelsSafe_serveCommit tables point h
  | _ => exact h

theorem levelsSafe_taking (l : Link) (c : Instr) (h : LevelsSafe s) : LevelsSafe (taking l c s) := by
  unfold taking
  split
  · exact levelsSafe_bodyOf c h
  · exact levelsSafe_serveReady h
  · exact levelsSafe_serveSleep h
  · split
    · exact levelsSafe_bodyOf c h
    · exact h

end Bodies

/-- A change of one port is no change of what the chains read. -/
theorem levelsSafe_setPort {s : State} (l : Link) (x : Port) (h : LevelsSafe s) : LevelsSafe (s.setPort l x) := by
  cases l <;> exact h

theorem keptByHandOver_levelsSafe : KeptByHandOver (fun _ _ => True) LevelsSafe where
  mark _ _ _ h := h
  receiver _ l _ _ _ h := levelsSafe_setPort l _ h
  arrive s l p _ _ h := by
    unfold State.arrive
    split
    · exact levelsSafe_setPort l _ h
    · exact h
  handed s x l p handed h := by
    obtain ⟨rx, rfl, -⟩ := handed_rx handed
    exact levelsSafe_setPort l _ h
  taking _ l c _ h := levelsSafe_taking l c h
  sent _ l _ _ _ _ h := levelsSafe_setPort l _ h
  offerSent _ _ h := h
  accepts _ _ _ := trivial

/-! ### The other events -/

/-- Outside RUN the outputs stay off. -/
theorem kept_outputsOff : Kept (fun s => s.time.domain ≠ .run ∧
    s.rails.capture = false ∧ s.rails.heater = false ∧ s.rails.recorder = false) where
  quiet _ _ _ _ _ _ _ h := h
  sched _ _ _ h := h
  time _ _ same _ h := ⟨same ▸ h.1, h.2⟩
  wakes _ _ h := h
  age _ _ h := h
  inRun _ _ _ run _ h := absurd run h.1
  unlatch _ h := h
  settings _ _ _ h := h
  sendP _ _ run h := absurd run h.1
  sendS _ _ run h := absurd run h.1
  session _ _ run _ h := absurd run h.1
  leaveSession _ run h := absurd run h.1
  queue _ _ run _ _ _ h := absurd run h.1
  forget _ h := h
  booted _ run _ h := absurd run h.1
  issue _ _ run _ _ h := absurd run h.1
  driveCapture _ _ run h := absurd run h.1
  exchange s tables _ h := by
    refine ⟨h.1, ?_⟩
    dsimp only [State.exchangeTables]
    split <;> exact h.2
  store _ _ run _ h := absurd run h.1

section Events
variable {s : State}

/-- What keeps the outputs off outside RUN keeps them safe there. -/
theorem levelsSafe_of_off {t : State}
    (off : t.time.domain ≠ .run ∧ t.rails.capture = false ∧ t.rails.heater = false ∧ t.rails.recorder = false) :
    LevelsSafe t := (levelsSafe_held off.1).mpr off.2

theorem outputsOff_of_safe (held : s.time.domain ≠ .run) (h : LevelsSafe s) :
    s.time.domain ≠ .run ∧ s.rails.capture = false ∧ s.rails.heater = false ∧ s.rails.recorder = false :=
  ⟨held, (levelsSafe_held held).mp h⟩

theorem levelsSafe_finishStart (before : State) : LevelsSafe (State.finishStart before s) :=
  levelsSafe_arbitrate (levelsSafe_settle _ _ _)

theorem levelsSafe_secondTick (h : LevelsSafe s) : LevelsSafe s.secondTick := by
  by_cases run : s.time.domain = .run
  · unfold State.secondTick
    rw [run]
    exact levelsSafe_settle _ _ _
  · exact levelsSafe_of_off (kept_outputsOff.secondTick (outputsOff_of_safe run h))

theorem levelsSafe_millisecond (h : LevelsSafe s) : LevelsSafe s.millisecond := by
  unfold State.millisecond
  split
  · exact h
  · exact levelsSafe_secondTick h

/-- The release of the main domain with SUPOK low leaves the outputs off (01 R12). -/
theorem levelsSafe_releaseToPowerBad (held : s.time.domain = .reset) (h : LevelsSafe s) : LevelsSafe s.releaseToPowerBad := by
  have off := outputsOff_of_safe (by rw [held]; decide) h
  have warm := (kept_outputsOff.endPending .power off).2
  refine levelsSafe_of_off ?_
  unfold State.releaseToPowerBad State.warmEntry
  split
  · exact kept_outputsOff.takeDueShot _ _ (kept_outputsOff.enterSilently ⟨nofun, warm⟩)
  · exact ⟨nofun, warm⟩

theorem levelsSafe_supokSeen (level : Bool) (h : LevelsSafe s) : LevelsSafe (s.supokSeen level) := by
  unfold State.supokSeen
  split
  · exact h
  · dsimp only
    split
    · refine levelsSafe_of_off ⟨nofun, ?_⟩
      simp [State.powerBadEntry, State.holdMain, Rails.held]
    · exact levelsSafe_finishStart _
    · exact h

theorem levelsSafe_trigActive (h : LevelsSafe s) : LevelsSafe s.trigActive := by
  unfold State.trigActive
  dsimp only
  split
  · by_cases run : s.time.domain = .run
    · rw [run]
      exact levelsSafe_settleIfPresented _ _ _
    · have off := kept_outputsOff.takeDueShot (s := s.seeTrig false) .event (s.seeTrig false).suspended
        (outputsOff_of_safe run h)
      split
      · rename_i now
        exact absurd now run
      · exact levelsSafe_of_off off
  · exact h

theorem captureSafe_evaluateWake (h : CaptureSafe s) : CaptureSafe s.evaluateWake :=
  captureSafe_congr h (by simp) (by simp) (by simp) (by simp)

theorem levelsSafe_sampleComparator (vbat : Nat) (h : LevelsSafe s) : LevelsSafe (s.sampleComparator vbat) := by
  unfold State.sampleComparator
  split
  · dsimp only
    split
    · exact levelsSafe_arbitrate (levelsSafe_concludeLoads s h.1)
    · exact h
  · exact h

theorem levelsSafe_blankingClosed (h : LevelsSafe s) : LevelsSafe s.blankingClosed := by
  refine levelsSafe_arbitrate ?_
  split
  · exact levelsSafe_concludeLoads s h.1
  · exact h

/-- A result that moves neither tier nor band moves no level (08 R150, R162). -/
theorem levelsSafe_conversionComplete (c : Channel) (q : Int) (h : LevelsSafe s) :
    LevelsSafe (s.conversionComplete c q) := by
  refine levelsSafe_arbitrate ?_
  unfold State.concludeResult
  split
  · rename_i same
    have shape : ∃ meas rails, ((s.storeResult c q).handOnResult c) = { s with meas := meas, rails := rails } ∧
        meas.sagLatch = s.meas.sagLatch ∧ rails = { s.rails with band := rails.band } := by
      cases c with
      | battery => exact ⟨_, _, rfl, rfl, rfl⟩
      | temperature => exact ⟨_, _, rfl, rfl, rfl⟩
      | aux => exact ⟨_, _, rfl, rfl, rfl⟩
    obtain ⟨meas, rails, moved, latch, band⟩ := shape
    rw [moved] at same ⊢
    have unmoved : rails = s.rails := by rw [band, same.2]
    exact levelsSafe_congr h rfl unmoved rfl rfl ⟨rfl, rfl⟩ ⟨latch, same.1⟩ Iff.rfl id
  · exact levelsSafe_conclude _ _ _

/-- A stamp orders no record. -/
theorem has_ordered_stampFirst (now : Stamp) (records : List ShotRecord) :
    (stampFirst now records).any (fun r => decide (r.state = .ordered)) =
      records.any (fun r => decide (r.state = .ordered)) := by
  induction records with
  | nil => rfl
  | cons r rs ih =>
    unfold stampFirst
    split
    · rfl
    · simp only [List.any_cons, ih]

theorem levelsSafe_strobeRise (h : LevelsSafe s) : LevelsSafe s.strobeRise := by
  unfold State.strobeRise
  split
  · refine levelsSafe_congr h rfl rfl rfl rfl ⟨rfl, rfl⟩ ⟨rfl, rfl⟩ Iff.rfl fun ordered => ?_
    exact (has_ordered_stampFirst s.time.now s.queue.records).symm.trans ordered
  · exact h

theorem levelsSafe_event {c : Instr} (noPacket : packetOf c = none) (noLink : isLinkEvent c = false) (h : LevelsSafe s) :
    ∃ t, exec c s = .next t ∧ LevelsSafe t := by
  cases c with
  | coldStart => exact ⟨_, rfl, levelsSafe_of_off ⟨nofun, rfl, rfl, rfl⟩⟩
  | resetEntry =>
    refine ⟨_, rfl, ?_⟩
    split
    · exact h
    · exact levelsSafe_of_off ⟨nofun, rfl, rfl, rfl⟩
  | warmReset =>
    refine ⟨_, rfl, ?_⟩
    split
    · rename_i held
      split
      · exact levelsSafe_finishStart _
      · exact levelsSafe_releaseToPowerBad held h
    · exact h
  | powerBadEntry => exact ⟨_, rfl, levelsSafe_supokSeen false h⟩
  | powerBadReturn => exact ⟨_, rfl, levelsSafe_supokSeen true h⟩
  | supokChangeInReset =>
    refine ⟨_, rfl, ?_⟩
    split
    · exact levelsSafe_supokSeen _ h
    · exact h
  | secondTick => exact ⟨_, rfl, levelsSafe_secondTick h⟩
  | millisecondEdge => exact ⟨_, rfl, levelsSafe_millisecond h⟩
  | refractoryExpiry =>
    refine ⟨_, rfl, ?_⟩
    split <;> exact h
  | trigActive =>
    refine ⟨_, rfl, ?_⟩
    split
    · exact levelsSafe_trigActive h
    · exact h
  | serviceActive =>
    refine ⟨_, rfl, ?_⟩
    split
    · unfold State.serviceActive
      dsimp only
      split
      · exact levelsSafe_concludeLoads s h.1
      · exact h
    · exact h
  | trigOrServiceHigh pin =>
    refine ⟨_, rfl, ?_⟩
    split <;> split <;> exact h
  | strobeRise =>
    refine ⟨_, rfl, ?_⟩
    split
    · exact levelsSafe_strobeRise h
    · exact h
  | sagTrip vbat => exact ⟨_, rfl, levelsSafe_sampleComparator vbat h⟩
  | comparatorLevelChange vbat => exact ⟨_, rfl, levelsSafe_sampleComparator vbat h⟩
  | bootTimerExpiry =>
    refine ⟨_, rfl, ?_⟩
    split
    · exact levelsSafe_conclude _ _ _
    · exact h
  | exposureDeadlineExpiry =>
    refine ⟨_, rfl, ?_⟩
    split
    · split
      · exact levelsSafe_settle _ _ _
      · exact h
    · exact h
  | deliveryTimerExpiry =>
    refine ⟨_, rfl, ?_⟩
    split
    · split
      · exact levelsSafe_settle _ _ _
      · exact h
    · exact h
  | relayReplyLimitExpiry =>
    refine ⟨_, rfl, ?_⟩
    split
    · exact levelsSafe_settle _ _ _
    · exact h
  | readyTimerExpiry =>
    refine ⟨_, rfl, ?_⟩
    split
    · exact levelsSafe_conclude _ _ _
    · exact h
  | awakeTimerExpiry =>
    refine ⟨_, rfl, ?_⟩
    split
    · exact levelsSafe_conclude _ _ _
    · exact h
  | offerTimeout =>
    refine ⟨_, rfl, ?_⟩
    split
    · exact levelsSafe_settle _ _ _
    · exact h
  | restTimerExpiry =>
    refine ⟨_, rfl, ?_⟩
    split
    · have rested : CaptureSafe s.endRest := h.1
      exact levelsSafe_concludeLoads s (captureSafe_evaluateWake rested)
    · exact h
  | measurePeriodExpiry =>
    refine ⟨_, rfl, ?_⟩
    split
    · have requested : LevelsSafe (s.request Requests.periodic).startMeasurePeriod := h
      exact levelsSafe_arbitrate requested
    · exact h
  | conversionComplete q =>
    refine ⟨_, rfl, ?_⟩
    split
    · split
      · exact levelsSafe_conversionComplete _ q h
      · exact h
    · exact h
  | blankingWindowExpiry =>
    refine ⟨_, rfl, ?_⟩
    split
    · exact levelsSafe_blankingClosed h
    · exact h
  | heaterPeriodExpiry =>
    refine ⟨_, rfl, ?_⟩
    split
    · exact levelsSafe_concludeLoads s h.1
    · exact h
  | heaterOnPhaseExpiry =>
    refine ⟨_, rfl, ?_⟩
    split
    · exact levelsSafe_concludeLoads s h.1
    · exact h
  | packetReceived _ _ _ _ | linkGapTimeout _ | transmissionComplete _ | byteReceived _ _ _ => cases noLink
  | _ => cases noPacket

end Events

theorem levelsSafe_exec (c : Instr) {s : State} (h : LevelsSafe s) : ∃ t, exec c s = .next t ∧ LevelsSafe t := by
  cases carries : packetOf c with
  | some lp => exact keptByHandOver_levelsSafe.packet carries trivial h
  | none =>
    cases link : isLinkEvent c with
    | true => exact keptByHandOver_levelsSafe.links.linkEvent link h
    | false => exact levelsSafe_event carries link h

/-- Settles O5: the levels command by command, the empty queue of a rail that is off change by change. -/
theorem stepKeepsOutputsSafe : Obligations.StepKeepsOutputsSafe := by
  intro s t safe _ stepped
  obtain ⟨levels, off⟩ := (outputsSafe_iff s).mp safe
  refine (outputsSafe_iff t).mpr ⟨?_, ?_⟩
  · exact step_keeps (fun _ _ h => h) (fun c _ _ h => levelsSafe_exec c h) levels stepped
  · exact keptByAll_captureOff.step (fun _ _ h => h) (fun _ _ _ _ _ => trivial) off stepped

end Sys2Proof.Machine
end

section
/-! PROOF. Wakes and session ends (05 R97 to R102, 06 R107, R122): what the evaluation of wake demand reads, and what the end of a
session gives up. -/

namespace Sys2Proof.Machine

/-! ### Timers -/

theorem timer_startSeconds_idle {n : Nat} : Timer.startSeconds n = .idle ↔ n = 0 := by
  unfold Timer.startSeconds Timer.start
  have thousand : Config.msPerSecond = 1000 := rfl
  split
  · rename_i zero
    simpa [thousand] using zero
  · rename_i pos
    simpa [thousand] using pos

/-! ### The evaluation of wake demand -/

theorem wakeDemand_iff (s : State) : s.wakeDemand = true ↔
    (∃ r, s.tierRow = some r ∧ r.batch ≤ s.queue.number .held) ∨
      (∃ r a, s.tierRow = some r ∧ s.heldAge = some a ∧ r.holdLimit ≤ a) ∨
        (s.queue.records.length = s.settings.capacity ∧ 0 < s.queue.number .held) := by
  unfold State.wakeDemand
  cases s.tierRow <;> cases s.heldAge <;> simp [or_assoc]

theorem gatesOpen_iff (s : State) : s.gatesOpen = true ↔
    s.pins.supok = true ∧ s.session.restTimer = .idle ∧ s.meas.tier ≠ .unset ∧
      ∃ r, s.tierRow = some r ∧ (r.allowance = 255 ∨ s.session.wakesToday.toNat < r.allowance) := by
  have unlimited : Config.unlimitedAllowance = 255 := rfl
  unfold State.gatesOpen
  cases s.tierRow with
  | none => simp
  | some r =>
    simp only [Option.any_some, Bool.and_eq_true, Bool.or_eq_true, Bool.not_eq_true', decide_eq_true_eq, decide_eq_false_iff_not,
      unlimited, Option.some.injEq, exists_eq_left', ne_eq]
    tauto

/-- An evaluation made while OFF and in RUN begins a wake by demand and gates, and does nothing else. -/
theorem evaluateWake_eq (s : State) : s.evaluateWake =
    if s.time.domain = .run ∧ s.session.state = .off ∧ s.wakeDemand = true ∧ s.gatesOpen = true then s.wake else s := rfl

theorem evaluateWake_notOff {s : State} (on : s.session.state ≠ .off) : s.evaluateWake = s := by
  rw [evaluateWake_eq, if_neg fun h => on h.2.1]

/-- The evaluation reads time, session, records, settings, tier and pins. -/
theorem evaluateWake_session_congr {a b : State} (time : a.time = b.time) (session : a.session = b.session)
    (records : a.queue.records = b.queue.records) (settings : a.settings = b.settings) (tier : a.meas.tier = b.meas.tier)
    (bank : a.store.tier.active = b.store.tier.active) (pins : a.pins = b.pins) :
    a.evaluateWake.session = b.evaluateWake.session := by
  have row : a.tierRow = b.tierRow := tierRow_congr tier bank
  have age : a.heldAge = b.heldAge := by simp only [State.heldAge, ShotQueue.oldest, records, time]
  have demand : a.wakeDemand = b.wakeDemand := by
    rw [Bool.eq_iff_iff, wakeDemand_iff, wakeDemand_iff]
    simp only [ShotQueue.number, records, row, age, settings]
  have gates : a.gatesOpen = b.gatesOpen := by simp only [State.gatesOpen, pins, session, row, tier]
  simp only [evaluateWake_eq, time, session, demand, gates]
  split
  · simp only [State.wake, session, settings]
  · exact session

/-! ### Session ends -/

theorem abandon_load (st : TableStore) : st.abandon.load = none := by
  unfold TableStore.abandon
  split
  · assumption
  · rfl

theorem abandon_commit (st : TableStore) : st.abandon.commit = st.commit := by
  unfold TableStore.abandon
  split
  · rfl
  · exact emptyStaged_commit _

/-- Settles O12: the session is left, and the evaluation of wake demand can only begin another at REST SPAN 0. -/
theorem sessionEndEffects : Obligations.SessionEndEffects := by
  intro s
  rw [endSession_eq, evaluateWake_eq]
  split
  · rename_i wakes
    obtain ⟨run, -, -, gates⟩ := wakes
    obtain ⟨-, rest, -⟩ := (gatesOpen_iff _).mp gates
    exact ⟨.inr ⟨rfl, timer_startSeconds_idle.mp rest, run⟩, rfl, rfl, rfl, rfl, nofun, rfl, rfl, abandon_load _,
      abandon_commit _, rfl, rfl, rfl, rfl⟩
  · exact ⟨.inl rfl, rfl, rfl, rfl, rfl, fun _ => ⟨rfl, rfl⟩, rfl, rfl, abandon_load _, abandon_commit _, rfl, rfl, rfl,
      rfl⟩

/-! ### The session's part of an end of event -/

theorem driveCapture_records (s : State) (why : SkipReason) : (s.driveCapture why).queue.records =
    if s.rails.capture = true ∧ s.captureLevel = false then [] else s.queue.records := by
  obtain ⟨same, level⟩ | ⟨boot, on, off⟩ | ⟨flushed, off, on⟩ := driveCapture_queue s why
  · rw [same, if_neg fun ⟨on, off⟩ => by rw [level, on] at off; cases off]
  · rw [boot, if_neg (by rw [off]; exact fun h => nomatch h.1)]
  · rw [flushed, if_pos ⟨on, off⟩]

theorem sessionAfter_awake {s : State} (awake : s.session.state = .awake) : s.sessionAfter = s.cancelOffer.offerTest := by
  rw [State.sessionAfter, awake]

theorem sessionAfter_off {s : State} (off : s.session.state = .off) : s.sessionAfter = s.evaluateWake := by
  rw [State.sessionAfter, off]

theorem sessionAfter_waking {s : State} (waking : s.session.state = .waking) : s.sessionAfter = s := by
  rw [State.sessionAfter, waking]

theorem sessionAfter_closing {s : State} (closing : s.session.state = .closing) :
    s.sessionAfter = if s.queue.has .releasing then s else s.endSession := by
  rw [State.sessionAfter, closing]

/-- An end of an event is one of a state that differs from the given one in its demand alone. -/
theorem ends_cases {why : SkipReason} {before s t : State}
    (ends : t = State.conclude why before s ∨ t = State.settle why before s) :
    ∃ rails : Rails, rails.capture = s.rails.capture ∧ t = State.conclude why before { s with rails := rails } := by
  obtain rfl | rfl := ends
  · exact ⟨s.rails, rfl, rfl⟩
  · exact ⟨s.refreshDemand.rails, rfl, rfl⟩

/-- Settles O13: demand and gates by their tests, and the end of an event in OFF by what the evaluation reads. -/
theorem automaticWakeNeedsDemandAndGates : Obligations.AutomaticWakeNeedsDemandAndGates := by
  refine ⟨fun s run off => ?_, fun why before s t ends => ?_, fun s => ⟨fun empty => ?_, fun r v oldest since => ?_⟩⟩
  · dsimp only
    rw [← wakeDemand_iff, ← gatesOpen_iff, evaluateWake_eq]
    exact ⟨fun ⟨demand, gates⟩ => if_pos ⟨run, off, demand, gates⟩, fun no => if_neg fun h => no h.2.2⟩
  · obtain ⟨rails, same, rfl⟩ := ends_cases ends
    rw [conclude_capture, conclude_session, conclude_plink, ← same]
    refine ⟨fun off => ?_, fun waking => ?_⟩
    · rw [sessionAfter_off (by simpa using off)]
      refine ⟨evaluateWake_session_congr (by simp) (by simp) ?_ (by simp) (by simp) (by simp) (by simp), by simp⟩
      rw [driveCapture_records]
    · rw [sessionAfter_waking (by simpa using waking)]
      simp
  · rw [State.heldAge, empty]
    rfl
  · rw [State.heldAge, oldest, Option.map_some, since]
    rfl

end Sys2Proof.Machine
end

section
/-! PROOF. The offer test (04 R61, R62, R78, 06 R112), the blanking window and the arbiter (07 R141, R142, 08 R149 to R154). -/

namespace Sys2Proof.Machine

/-! ### Terms for the records of a state -/

theorem has_iff (q : ShotQueue) (st : RecState) : q.has st = true ↔ ∃ r ∈ q.records, r.state = st := by
  simp [ShotQueue.has]

theorem number_eq_length (q : ShotQueue) (st : RecState) :
    q.number st = (q.records.filter (fun r => decide (r.state = st))).length :=
  List.countP_eq_length_filter

/-- The first element that passes a test. -/
theorem find?_append_cons {α : Type} {p : α → Bool} {pre post : List α} {a : α} (here : p a = true)
    (before : ∀ x ∈ pre, p x = false) : (pre ++ a :: post).find? p = some a :=
  List.find?_eq_some_iff_append.mpr ⟨here, pre, post, rfl, fun x mem => by rw [before x mem]; rfl⟩

theorem oldest_of_split {q : ShotQueue} {st : RecState} {pre post : List ShotRecord} {r : ShotRecord}
    (records : q.records = pre ++ r :: post) (here : r.state = st) (before : ∀ x ∈ pre, x.state ≠ st) :
    q.oldest st = some r := by
  rw [ShotQueue.oldest, records]
  exact find?_append_cons (decide_eq_true here) fun x mem => decide_eq_false (before x mem)

theorem oldest_eq_none {q : ShotQueue} {st : RecState} (absent : ∀ r ∈ q.records, r.state ≠ st) : q.oldest st = none := by
  rw [ShotQueue.oldest, List.find?_eq_none]
  exact fun r mem => by simpa using absent r mem

theorem withTag_of_split {q : ShotQueue} {tag : Byte} {pre post : List ShotRecord} {r : ShotRecord}
    (records : q.records = pre ++ r :: post) (here : r.tag = tag) (before : ∀ x ∈ pre, x.tag ≠ tag) :
    q.withTag tag = some r := by
  rw [ShotQueue.withTag, records]
  exact find?_append_cons (decide_eq_true here) fun x mem => decide_eq_false (before x mem)

theorem withTag_eq_none {q : ShotQueue} {tag : Byte} (absent : ∀ r ∈ q.records, r.tag ≠ tag) : q.withTag tag = none := by
  rw [ShotQueue.withTag, List.find?_eq_none]
  exact fun r mem => by simpa using absent r mem

/-! ### The offer test -/

theorem mayOffer_iff (s : State) : s.mayOffer = true ↔
    s.session.state = .awake ∧ s.queue.has .offered = false ∧ s.queue.has .releasing = false := by
  simp [State.mayOffer, and_assoc]

theorem offerTest_of_candidate {s : State} {r : ShotRecord} (may : s.mayOffer = true) (oldest : s.queue.oldest .held = some r) :
    s.offerTest = (s.beginOffer r).sendP (offerPacket r) := by
  rw [State.offerTest, State.offerCandidate, if_pos may, oldest]

theorem offerTest_none {s : State} (no : s.mayOffer = false ∨ s.queue.oldest .held = none) : s.offerTest = s := by
  have nothing : s.offerCandidate = none := by
    unfold State.offerCandidate
    split
    · obtain closed | empty := no
      · simp_all
      · exact empty
    · rfl
  rw [State.offerTest, nothing]

/-- The offer timer goes with the last OFFERED record. -/
theorem cancelOffer_session (s : State) : s.cancelOffer.session = { s.session with
    offerTimer := if s.queue.has .offered = true then s.session.offerTimer else .idle } := by
  unfold State.cancelOffer
  split <;> rfl

/-- What an end of an event in AWAKE does with the queue, the session and the P-link, from the records it finds there. -/
theorem sessionAfter_awake_cases {s : State} (awake : s.session.state = .awake) :
    (∀ r, s.queue.has .offered = false → s.queue.has .releasing = false → s.queue.oldest .held = some r →
      s.sessionAfter.queue.records = s.queue.records.map (fun q : ShotRecord =>
        if q.tag = r.tag then { q with state := .offered } else q) ∧
      s.sessionAfter.session =
        { s.session with offerTimer := Timer.start s.settings.offerWindow, offerSent := false } ∧
      s.sessionAfter.plink = { s.plink with tx := s.plink.tx ++ [offerPacket r] }) ∧
    ((s.queue.has .offered = true ∨ s.queue.has .releasing = true ∨ s.queue.oldest .held = none) →
      s.sessionAfter.queue.records = s.queue.records ∧
      s.sessionAfter.session = { s.session with
        offerTimer := if s.queue.has .offered = true then s.session.offerTimer else .idle } ∧
      s.sessionAfter.plink = s.plink) := by
  have queue : s.cancelOffer.queue = s.queue := cancelOffer_queue s
  have still : s.cancelOffer.session.state = .awake := by rw [cancelOffer_session]; exact awake
  rw [sessionAfter_awake awake]
  refine ⟨fun r noOffer noRelease oldest => ?_, fun no => ?_⟩
  · rw [offerTest_of_candidate ((mayOffer_iff _).mpr ⟨still, by rwa [queue], by rwa [queue]⟩) (by rwa [queue])]
    refine ⟨?_, ?_, ?_⟩
    · rw [sendP_queue, State.beginOffer, queue]
      rfl
    · rw [sendP_session, State.beginOffer, cancelOffer_session, cancelOffer_settings]
    · rw [sendP_plink, beginOffer_plink, cancelOffer_plink]
  · rw [offerTest_none]
    · exact ⟨by rw [queue], cancelOffer_session s, cancelOffer_plink s⟩
    · rw [queue]
      obtain offered | releasing | nobody := no
      · exact .inl (by simp [State.mayOffer, offered])
      · exact .inl (by simp [State.mayOffer, releasing])
      · exact .inr nobody

/-- Settles O14: the test by its candidate, the end of an event by the records that the capture rail leaves, and the terms. -/
theorem offerTestOffersTheOldestHeld : Obligations.OfferTestOffersTheOldestHeld := by
  refine ⟨fun s => ⟨fun r awake noOffer noRelease oldest => ?_, fun no => offerTest_none ?_⟩, fun why before s t ends awake => ?_,
    fun q st tag => ⟨has_iff q st, number_eq_length q st, fun _ _ _ => oldest_of_split, oldest_eq_none,
      fun _ _ _ => withTag_of_split, withTag_eq_none⟩⟩
  · exact offerTest_of_candidate ((mayOffer_iff s).mpr ⟨awake, noOffer, noRelease⟩) oldest
  · obtain notAwake | offered | releasing | nobody := no
    · exact .inl (by simp [State.mayOffer, notAwake])
    · exact .inl (by simp [State.mayOffer, offered])
    · exact .inl (by simp [State.mayOffer, releasing])
    · exact .inr nobody
  · obtain ⟨rails, same, rfl⟩ := ends_cases ends
    let x : State := { s with rails := rails }
    have records : (x.driveCapture why).queue.records =
        if s.rails.capture = true ∧ x.captureLevel = false then [] else s.queue.records := by
      rw [driveCapture_records, ← same]
    obtain ⟨offers, calm⟩ := sessionAfter_awake_cases (s := x.driveCapture why) (by simpa [x] using awake)
    simp only [ShotQueue.has, ShotQueue.oldest, records, driveCapture_session, driveCapture_settings,
      driveCapture_plink] at offers calm
    dsimp only
    rw [conclude_capture, conclude_queue, conclude_session, conclude_plink]
    refine ⟨fun off => ?_, fun r noOff => ?_, fun noOff => ?_⟩
    · rw [if_pos off] at calm
      exact calm (.inr (.inr rfl))
    · rw [if_neg noOff] at offers
      exact offers r
    · rw [if_neg noOff] at calm
      exact calm

/-! ### Blanking, spoiled conversions and the arbiter -/

theorem spoil_none {s : State} (idle : s.meas.converting = none) : s.spoil = s := by
  rw [State.spoil, idle]

theorem spoil_some {s : State} {c : Channel} (converting : s.meas.converting = some c) :
    s.spoil = { s with
      meas := { s.meas with converting := none, conversion := .idle, requests := s.meas.requests.put c true }
      counters := s.counters.put .spoiledConversions (satInc s.counters.spoiledConversions) } := by
  rw [State.spoil, converting]
  rfl

theorem openBlanking_eq (s : State) : s.openBlanking = { s with meas := { s.meas with
    blanking := if s.settings.blankLength = 0 then s.meas.blanking else Timer.start s.settings.blankLength } } := by
  unfold State.openBlanking
  split <;> rfl

/-- The arbiter starts a conversion of the first pending channel when nothing stands in its way. -/
theorem arbitrate_of_free {s : State} {c : Channel} (run : s.time.domain = .run) (idle : s.meas.converting = none)
    (closed : s.meas.blanking = .idle) (first : s.meas.requests.first = some c) :
    s.arbitrate = { s with meas := { s.meas with
      converting := some c, conversion := .running 5, requests := s.meas.requests.put c false } } := by
  rw [State.arbitrate, run, idle, closed, first]
  rfl

theorem arbitrate_blocked {s : State} (no : s.time.domain ≠ .run ∨ s.meas.converting ≠ none ∨ s.meas.blanking ≠ .idle ∨
    s.meas.requests.first = none) : s.arbitrate = s := by
  unfold State.arbitrate
  split
  · rename_i run idle closed first
    obtain held | busy | open_ | nothing := no
    · exact absurd run held
    · exact absurd idle busy
    · exact absurd closed open_
    · cases first.symm.trans nothing
  · rfl

/-- The arbiter reads domain, converter, window and requests. -/
theorem arbitrate_meas_congr {a b : State} (time : a.time.domain = b.time.domain) (meas : a.meas = b.meas) :
    a.arbitrate.meas = b.arbitrate.meas := by
  unfold State.arbitrate
  rw [time, meas]
  split <;> simp only [meas]

theorem reportEdges_of_selected {before s : State} (selected : ∃ k ∈ outputEdges before.rails s.rails, k ∈ s.settings.blankEdges) :
    State.reportEdges before s = s.openBlanking.spoil.arbitrate := by
  obtain ⟨k, edge, chosen⟩ := selected
  exact if_pos (List.any_eq_true.mpr ⟨k, edge, by simpa using chosen⟩)

theorem reportEdges_of_none {before s : State} (unselected : ∀ k ∈ outputEdges before.rails s.rails, k ∉ s.settings.blankEdges) :
    State.reportEdges before s = s := by
  refine if_neg fun any => ?_
  obtain ⟨k, edge, chosen⟩ := List.any_eq_true.mp any
  exact unselected k edge (by simpa using chosen)

/-- The edges of the capture rail, of the recorder rail and of the heater, each from its own levels. -/
theorem mem_outputEdges (k : EdgeKind) (a b : Rails) : k ∈ outputEdges a b ↔ match k with
    | .captureOn => a.capture = false ∧ b.capture = true
    | .captureOff => a.capture = true ∧ b.capture = false
    | .recorderOn => a.recorder = false ∧ b.recorder = true
    | .recorderOff => a.recorder = true ∧ b.recorder = false
    | .heaterOn => a.heater = false ∧ b.heater = true
    | .heaterOff => a.heater = true ∧ b.heater = false := by
  have capture : ∀ x y : Bool, k ∈ (if x = y then [] else [if y then EdgeKind.captureOn else .captureOff]) ↔
      (k = .captureOn ∧ x = false ∧ y = true) ∨ (k = .captureOff ∧ x = true ∧ y = false) := by
    cases k <;> decide
  have recorder : ∀ x y : Bool, k ∈ (if x = y then [] else [if y then EdgeKind.recorderOn else .recorderOff]) ↔
      (k = .recorderOn ∧ x = false ∧ y = true) ∨ (k = .recorderOff ∧ x = true ∧ y = false) := by
    cases k <;> decide
  have heater : ∀ x y : Bool, k ∈ (if x = y then [] else [if y then EdgeKind.heaterOn else .heaterOff]) ↔
      (k = .heaterOn ∧ x = false ∧ y = true) ∨ (k = .heaterOff ∧ x = true ∧ y = false) := by
    cases k <;> decide
  rw [outputEdges, List.mem_append, List.mem_append, capture, recorder, heater]
  cases k <;> simp

/-- The window and the spoiled conversion of an event's selected edge, read off a state with the same converter. -/
theorem blanking_congr {a b : State} (time : a.time.domain = b.time.domain) (meas : a.meas = b.meas)
    (settings : a.settings = b.settings)
    (count : a.counters.spoiledConversions = b.counters.spoiledConversions) :
    a.openBlanking.spoil.arbitrate.meas = b.openBlanking.spoil.arbitrate.meas ∧
      a.openBlanking.spoil.counters.spoiledConversions = b.openBlanking.spoil.counters.spoiledConversions := by
  cases converting : b.meas.converting with
  | none =>
    rw [spoil_none (s := a.openBlanking) (by rw [openBlanking_eq, meas]; exact converting),
      spoil_none (s := b.openBlanking) (by rw [openBlanking_eq]; exact converting)]
    refine ⟨arbitrate_meas_congr (by simpa using time) ?_, by simpa using count⟩
    rw [openBlanking_eq, openBlanking_eq, meas, settings]
  | some c =>
    rw [spoil_some (s := a.openBlanking) (c := c) (by rw [openBlanking_eq, meas]; exact converting),
      spoil_some (s := b.openBlanking) (c := c) (by rw [openBlanking_eq]; exact converting)]
    refine ⟨arbitrate_meas_congr (by simpa using time) ?_, ?_⟩
    · simp only [openBlanking_eq, meas, settings]
    · simp only [openBlanking_counters, Counters.put, count]

/-- The converter at the end of an event that leaves a state's converter to the edge report. -/
theorem concludeLoads_blanking (before : State) {s x : State} (time : x.time.domain = s.time.domain) (meas : x.meas = s.meas)
    (settings : x.settings = s.settings)
    (count : x.counters.spoiledConversions = s.counters.spoiledConversions) :
    let t := State.concludeLoads before x
    ((∃ k ∈ outputEdges before.rails t.rails, k ∈ s.settings.blankEdges) →
      t.meas = s.openBlanking.spoil.arbitrate.meas ∧
      t.counters.spoiledConversions = s.openBlanking.spoil.counters.spoiledConversions) ∧
    ((∀ k ∈ outputEdges before.rails t.rails, k ∉ s.settings.blankEdges) →
      t.meas = s.meas ∧ t.counters.spoiledConversions = s.counters.spoiledConversions) := by
  intro t
  have rails : t.rails = x.driveLoads.rails := by simp [t, State.concludeLoads]
  refine ⟨fun selected => ?_, fun unselected => ?_⟩
  · rw [rails, ← settings] at selected
    have report : t = x.driveLoads.openBlanking.spoil.arbitrate := reportEdges_of_selected selected
    rw [report, arbitrate_counters]
    exact blanking_congr time meas settings count
  · rw [rails, ← settings] at unselected
    have report : t = x.driveLoads := reportEdges_of_none unselected
    rw [report]
    exact ⟨meas, count⟩

theorem sessionAfter_driveCapture_spoiled (why : SkipReason) (s : State) :
    (s.driveCapture why).sessionAfter.counters.spoiledConversions = s.counters.spoiledConversions :=
  (sessionAfter_value _ (k := .spoiledConversions) (by decide)).trans
    (driveCapture_value why s (k := .spoiledConversions) (by decide) (by cases why <;> decide))

/-- Settles O15: window, spoil and arbiter by their cases, edges by their levels, and the report at the end of an event. -/
theorem blankingAndArbiter : Obligations.BlankingAndArbiter := by
  refine ⟨fun s => ?_, fun before s => ⟨reportEdges_of_selected, reportEdges_of_none⟩, fun s c run idle closed first => ?_,
    fun s no => arbitrate_blocked ?_, fun a b => ⟨mem_outputEdges _ a b, mem_outputEdges _ a b, mem_outputEdges _ a b,
      mem_outputEdges _ a b, mem_outputEdges _ a b, mem_outputEdges _ a b⟩, fun why before s t ends => ?_,
    fun r b => ⟨rfl, rfl, rfl⟩⟩
  · have blanking : s.openBlanking.spoil.meas.blanking = s.openBlanking.meas.blanking := by rw [spoil_meas]
    refine ⟨fun pos => ?_, fun zero => ?_, fun c converting => ?_, fun idle => ?_, ?_, ?_, ?_, ?_, by simp⟩
    · rw [blanking, openBlanking_eq]
      exact if_neg pos
    · rw [blanking, openBlanking_eq]
      exact if_pos zero
    · rw [spoil_some (s := s.openBlanking) (c := c) (by rw [openBlanking_eq]; exact converting), openBlanking_eq]
      exact ⟨rfl, rfl, rfl, rfl⟩
    · rw [spoil_none (s := s.openBlanking) (by rw [openBlanking_eq]; exact idle), openBlanking_eq]
      exact ⟨idle, rfl, rfl⟩
    · rw [spoil_meas, openBlanking_eq]
    · rw [spoil_meas, openBlanking_eq]
    · rw [spoil_meas, openBlanking_eq]
    · rw [spoil_meas, openBlanking_eq]
  · refine arbitrate_of_free run idle closed ?_
    obtain ⟨rfl, battery⟩ | ⟨rfl, noBattery, temperature⟩ | ⟨rfl, noBattery, noTemperature, aux⟩ := first
    · simp [Requests.first, battery]
    · simp [Requests.first, noBattery, temperature]
    · simp [Requests.first, noBattery, noTemperature, aux]
  · obtain held | busy | open_ | nothing := no
    · exact .inl held
    · exact .inr (.inl busy)
    · exact .inr (.inr (.inl open_))
    · exact .inr (.inr (.inr (by rw [nothing]; rfl)))
  · obtain rfl | rfl | rfl := ends
    · exact concludeLoads_blanking before (s := s) (by simp) (by simp) (by simp)
        (sessionAfter_driveCapture_spoiled why s.refreshDemand)
    · exact concludeLoads_blanking before (s := s) (by simp) (by simp) (by simp)
        (sessionAfter_driveCapture_spoiled why s)
    · exact concludeLoads_blanking before rfl rfl rfl rfl

end Sys2Proof.Machine
end

section
/-! PROOF. Timeouts and the calendar (01 R1 to R9), second ticks while STOPPED, and due shots (02 R19, R22, R31). -/

namespace Sys2Proof.Machine

/-! ### Timeouts -/

theorem timer_age_age (a b : Nat) (t : Timer) : (t.age a).age b = t.age (a + b) := by
  cases t with
  | idle => rfl
  | running k => exact congrArg Timer.running (Nat.sub_sub k a b)

/-- Settles O16: the count of a timer, and REFRACTORY_EXPIRY by whether it is over. -/
theorem timeoutsCountMillisecondEdges : Obligations.TimeoutsCountMillisecondEdges := by
  refine ⟨fun n k pos => timer_due_age pos, timer_start_zero, fun n k pos => ?_, timer_age_age, fun s due => ?_, fun s due => ?_⟩
  · have thousand : 0 < n * Config.msPerSecond := Nat.mul_pos pos (by decide)
    exact timer_due_age thousand
  · simp [exec, execRefractoryExpiry, due]
  · simp [exec, execRefractoryExpiry, due]

/-! ### The calendar -/

theorem dayNumber_secondOfDay (t : TimeBase) :
    (t.calendar.toNat : Int) + t.dayOffset = t.dayNumber * 86400 + t.secondOfDay ∧ t.secondOfDay < 86400 := by
  have day : (Config.secondsPerDay : Int) = 86400 := rfl
  unfold TimeBase.dayNumber TimeBase.secondOfDay TimeBase.sum
  rw [day]
  constructor <;> omega

/-- The time after a second tick. -/
def TimeBase.nextSecond (t : TimeBase) : TimeBase := { t with calendar := t.calendar + 1, phase := 0 }

/-- Wakes-today after a second tick: 0 on a new day (01 R4, 05 R103). -/
def State.wakesAfterTick (s : State) : Word16 :=
  if s.time.dayNumber = s.time.nextSecond.dayNumber then s.session.wakesToday else 0

/-- The state that a second tick gives its receivers. -/
def State.ticked (s : State) : State :=
  let aged := s.ageTimers (1000 - s.time.phase)
  { aged with time := s.time.nextSecond, session := { aged.session with wakesToday := s.wakesAfterTick } }

theorem rollover_eq (before : TimeBase) (s : State) : s.rollover before = { s with session := { s.session with
    wakesToday := if before.dayNumber = s.time.dayNumber then s.session.wakesToday else 0 } } := by
  unfold State.rollover
  split <;> rfl

theorem advanceSecond_ageTimers (s : State) :
    (s.ageTimers (Config.msPerSecond - s.time.phase)).advanceSecond = s.ticked := by
  rw [State.advanceSecond, rollover_eq]
  rfl

theorem schedulerTick_stopped {s : State} (stopped : s.sched.state = .stopped) (wrapped : Bool) :
    s.schedulerTick wrapped = s := by
  rw [State.schedulerTick, stopped]

/-- While STOPPED neither warm-up demand nor time to the next shot is presented (02 R26). -/
theorem present_stopped {s : State} (stopped : s.sched.state = .stopped) :
    s.present = { s with rails := { s.rails with timeToNext := none, warmUp := false } } := by
  have absent : s.nextShotIn = none := by rw [State.nextShotIn, stopped]
  unfold State.present
  rw [absent]
  simp [warmUpFor]

theorem secondTick_eq (s : State) : s.secondTick = match s.time.domain with
    | .reset => s.ticked
    | .powerBad => s.ticked.schedulerTick s.wraps
    | .run => State.settle .protection s.ticked (s.ticked.schedulerTick s.wraps).present := by
  cases domain : s.time.domain <;> simp only [State.secondTick, domain, advanceSecond_ageTimers]

/-- The blocks that no second tick changes. -/
theorem secondTick_frame (s : State) : s.secondTick.time = s.time.nextSecond ∧ s.secondTick.settings = s.settings ∧
    s.secondTick.flags = s.flags ∧ s.secondTick.inputs = s.inputs ∧ s.secondTick.pins = s.pins ∧
    s.secondTick.pending = s.pending := by
  rw [secondTick_eq]
  split
  · exact ⟨rfl, rfl, rfl, rfl, rfl, rfl⟩
  · simp only [schedulerTick_time, schedulerTick_settings, schedulerTick_flags, schedulerTick_inputs, schedulerTick_pins,
      schedulerTick_pending]
    exact ⟨rfl, rfl, rfl, rfl, rfl, rfl⟩
  · simp only [settle_time, settle_settings, settle_flags, settle_inputs, settle_pins, settle_pending, present_time,
      present_settings, present_flags, present_inputs, present_pins, present_pending, schedulerTick_time,
      schedulerTick_settings, schedulerTick_flags, schedulerTick_inputs, schedulerTick_pins, schedulerTick_pending]
    exact ⟨rfl, rfl, rfl, rfl, rfl, rfl⟩

/-! ### Wakes counted at the end of an event -/

theorem evaluateWake_wakesToday (s : State) : s.evaluateWake.session.wakesToday = s.session.wakesToday ∨
    s.evaluateWake.session.wakesToday = satInc s.session.wakesToday := by
  rw [evaluateWake_eq]
  split
  · exact .inr rfl
  · exact .inl rfl

theorem offerTest_wakesToday (s : State) : s.offerTest.session.wakesToday = s.session.wakesToday := by
  unfold State.offerTest
  split <;> rfl

theorem sessionAfter_wakesToday (s : State) : s.sessionAfter.session.wakesToday = s.session.wakesToday ∨
    s.sessionAfter.session.wakesToday = satInc s.session.wakesToday := by
  cases state : s.session.state with
  | off =>
    rw [sessionAfter_off state]
    exact evaluateWake_wakesToday s
  | waking =>
    rw [sessionAfter_waking state]
    exact .inl rfl
  | awake =>
    rw [sessionAfter_awake state, offerTest_wakesToday, cancelOffer_session]
    exact .inl rfl
  | closing =>
    rw [sessionAfter_closing state]
    split
    · exact .inl rfl
    · rw [endSession_eq]
      exact evaluateWake_wakesToday s.leaveSession

theorem settle_wakesToday (why : SkipReason) (before s : State) :
    (State.settle why before s).session.wakesToday = s.session.wakesToday ∨
      (State.settle why before s).session.wakesToday = satInc s.session.wakesToday := by
  rw [State.settle, conclude_session]
  simpa using sessionAfter_wakesToday (s.refreshDemand.driveCapture why)

/-- Settles O17: the edge by its phase, the tick by the domain and the Scheduler's state. -/
theorem millisecondStreamAndSecondTick : Obligations.MillisecondStreamAndSecondTick := by
  have edge : ∀ s : State, s.time.phase < 999 →
      s.millisecond = { s.ageTimers 1 with time := { s.time with phase := s.time.phase + 1 } } := fun s early =>
    if_pos (Nat.succ_lt_succ early)
  have whole : ∀ s : State, ¬ s.time.phase < 999 → s.millisecond = s.secondTick := fun s last =>
    if_neg fun early => last (Nat.lt_of_succ_lt_succ early)
  refine ⟨dayNumber_secondOfDay, fun _ _ => rfl, fun s early => congrArg Host.Outcome.next (edge s early),
    fun s last => congrArg Host.Outcome.next (whole s (by omega)), fun s => ⟨_, rfl, ?_⟩, fun s => ⟨fun reset => ?_,
      fun stopped bad => ?_, fun stopped run => ?_, s.secondTick, rfl, ?_⟩⟩
  · by_cases early : s.time.phase < 999
    · rw [edge s early, if_pos early]
      exact ⟨rfl, rfl, rfl⟩
    · rw [whole s early, if_neg early]
      obtain ⟨time, settings, -, -, -, pending⟩ := secondTick_frame s
      exact ⟨pending, settings, time⟩
  · refine congrArg Host.Outcome.next ?_
    rw [secondTick_eq, reset]
    rfl
  · refine congrArg Host.Outcome.next ?_
    rw [secondTick_eq, bad]
    have still : s.ticked.sched.state = .stopped := stopped
    exact schedulerTick_stopped still _
  · refine congrArg Host.Outcome.next ?_
    rw [secondTick_eq, run]
    have still : s.ticked.sched.state = .stopped := stopped
    rw [schedulerTick_stopped still, present_stopped still]
    rfl
  · obtain ⟨time, settings, flags, inputs, pins, pending⟩ := secondTick_frame s
    refine ⟨time, settings, flags, inputs, pins, pending, fun bad => ?_, fun run => ?_⟩
    · rw [secondTick_eq, bad]
      exact congrArg Session.wakesToday (schedulerTick_session _ _)
    · rw [secondTick_eq, run]
      have counts := settle_wakesToday .protection s.ticked (s.ticked.schedulerTick s.wraps).present
      simp only [present_session, schedulerTick_session] at counts
      exact counts

/-! ### Due shots -/

theorem protectedNow_iff (s : State) : s.protectedNow = true ↔
    s.settings.captureMode = .off ∨ s.rails.moduleLatch = true ∨ s.bandForbids = true := by
  simp [State.protectedNow, or_assoc]

theorem handleShot_protected {s : State} (forbidden : s.protectedNow = true) (kind : PendingKind) :
    s.handleShot kind = s.skip .protection := if_pos forbidden

theorem handleShot_ready {s : State} (free : s.protectedNow = false) (ready : s.queue.module = .ready) (kind : PendingKind) :
    s.handleShot kind = s.issueOrSkip (s.specsOf ⟨kind, s.time.calendar, none⟩) := by
  simp [State.handleShot, free, ready]

theorem handleShot_notReady {s : State} (free : s.protectedNow = false) (notReady : s.queue.module ≠ .ready)
    (kind : PendingKind) : s.handleShot kind =
      if s.sched.slot.isSome then s.skip .late else s.fillSlot ⟨kind, s.time.calendar, none⟩ := by
  unfold State.handleShot
  rw [free]
  cases module : s.queue.module with
  | ready => exact absurd module notReady
  | unpowered => rfl
  | booting => rfl

theorem takeDueShot_run {s : State} (run : s.time.domain = .run) (kind : PendingKind) :
    s.takeDueShot kind false = s.handleShot kind := by
  simp [State.takeDueShot, run]

theorem takeDueShot_held {s : State} (held : s.time.domain ≠ .run) (kind : PendingKind) :
    s.takeDueShot kind false = s.skip .power := by
  unfold State.takeDueShot
  rw [if_neg (by decide)]
  split
  · rename_i run
    exact absurd run held
  · rfl

/-- Settles O19: SUSPEND, supply domain, protection, module and slot in turn. -/
theorem dueShotIsTakenByItsFirstStage : Obligations.DueShotIsTakenByItsFirstStage := by
  intro kind s
  dsimp only
  rw [← protectedNow_iff, Bool.not_eq_true]
  refine ⟨rfl, fun held => takeDueShot_held held kind, fun run forbidden => ?_, fun run free ready => ⟨fun fits => ?_,
    fun full some_ => ?_⟩, fun run free notReady empty => ?_, fun run free notReady filled => ?_⟩
  · rw [takeDueShot_run run, handleShot_protected forbidden]
    rfl
  · rw [takeDueShot_run run, handleShot_ready free ready]
    exact if_pos (Nat.le_sub_of_add_le fits)
  · rw [takeDueShot_run run, handleShot_ready free ready]
    have pos := List.length_pos_iff.mpr some_
    have tooMany : ¬ (s.specsOf ⟨kind, s.time.calendar, none⟩).length ≤ s.freeSlots := by
      unfold State.freeSlots
      omega
    exact if_neg tooMany
  · rw [takeDueShot_run run, handleShot_notReady free notReady, empty]
    rfl
  · rw [takeDueShot_run run, handleShot_notReady free notReady, if_pos (Option.isSome_iff_ne_none.mpr filled)]
    rfl

end Sys2Proof.Machine
end

section
/-! PROOF. A second tick while RUNNING (02 R18 to R26, R32): entries by passing time, due shots and the values presented. -/

namespace Sys2Proof.Machine

/-! ### Rows of the window table (02 R15, R20) -/

section Rows
variable {rows : List WindowRow} {d : Nat}

/-- In order of their starts, the rows that start at or before the last one to do so are those up to it. -/
theorem countP_starts (sorted : rows.Pairwise (fun a b => a.start < b.start)) {i : Nat} {r : WindowRow} (row : rows[i]? = some r)
    (here : r.start ≤ d) (next : ∀ q, rows[i + 1]? = some q → d < q.start) :
    rows.countP (fun r => decide (r.start ≤ d)) = i + 1 := by
  obtain ⟨inside, rfl⟩ := List.getElem?_eq_some_iff.mp row
  rw [List.pairwise_iff_getElem] at sorted
  have upTo : (rows.take (i + 1)).countP (fun r => decide (r.start ≤ d)) = i + 1 := by
    rw [List.countP_eq_length.mpr, List.length_take, Nat.min_eq_left (by omega)]
    intro q mem
    obtain ⟨j, bound, rfl⟩ := List.mem_take_iff_getElem.mp mem
    rw [decide_eq_true_iff]
    obtain before | rfl : j < i ∨ j = i := by omega
    · exact (Nat.le_of_lt (sorted j i (by omega) inside before)).trans here
    · exact here
  have beyond : (rows.drop (i + 1)).countP (fun r => decide (r.start ≤ d)) = 0 := by
    rw [List.countP_eq_zero]
    intro q mem
    obtain ⟨j, bound, rfl⟩ := List.mem_drop_iff_getElem.mp mem
    rw [decide_eq_true_iff, Nat.not_le]
    have first := next rows[i + 1] (List.getElem?_eq_getElem (by omega))
    obtain rfl | later : j = 0 ∨ 0 < j := by omega
    · exact first
    · exact first.trans (sorted (i + 1) (i + 1 + j) (by omega) (by omega) (by omega))
  rw [← List.take_append_drop (i + 1) rows, List.countP_append, upTo, beyond]

theorem windowAt_of_row (sorted : rows.Pairwise (fun a b => a.start < b.start)) {i : Nat} {r : WindowRow}
    (row : rows[i]? = some r) (here : r.start ≤ d) (next : ∀ q, rows[i + 1]? = some q → d < q.start) :
    windowAt rows d = some i := by
  have some_ : rows ≠ [] := by rintro rfl; cases row
  simp [windowAt, some_, countP_starts sorted row here next]

/-- Before the first start the last row's window runs on from the day before. -/
theorem windowAt_before (sorted : rows.Pairwise (fun a b => a.start < b.start)) {r : WindowRow} (head : rows.head? = some r)
    (before : d < r.start) : windowAt rows d = some (rows.length - 1) := by
  obtain ⟨rest, rfl⟩ := List.head?_eq_some_iff.mp head
  have all : (r :: rest).countP (fun r => decide (r.start ≤ d)) = 0 := by
    rw [List.countP_eq_zero]
    intro q mem
    rw [decide_eq_true_iff, Nat.not_le]
    obtain rfl | later := List.mem_cons.mp mem
    · exact before
    · exact before.trans (List.rel_of_pairwise_cons sorted later)
  simp [windowAt, all]

theorem windowStarting_of_row (sorted : rows.Pairwise (fun a b => a.start < b.start)) {i : Nat} {r : WindowRow}
    (row : rows[i]? = some r) (here : r.start = d) : windowStarting rows d = some i := by
  obtain ⟨inside, rfl⟩ := List.getElem?_eq_some_iff.mp row
  rw [List.pairwise_iff_getElem] at sorted
  refine List.findIdx?_eq_some_iff_getElem.mpr ⟨inside, decide_eq_true here, fun j before => ?_⟩
  have earlier := sorted j i (by omega) inside before
  simp only [decide_eq_true_eq]
  omega

end Rows

/-! ### The current window's interval (02 R19) -/

theorem currentWindow_eq (s : State) : s.currentWindow = s.sched.window.bind (fun i => s.store.window.active.rows[i]?) := by
  unfold State.currentWindow
  cases s.sched.window <;> rfl

theorem suspended_eq (s : State) : s.suspended = decide (s.stretch = .suspend) := by
  cases stretch : s.stretch <;> simp [State.suspended, stretch]

theorem intervalReached_iff (s : State) : s.intervalReached = true ↔ ∃ i r, s.sched.window = some i ∧
    s.store.window.active.rows[i]? = some r ∧ min 86400 (r.interval * s.stretch.factor) ≤ s.sched.elapsed := by
  unfold State.intervalReached State.effectiveInterval
  rw [currentWindow_eq]
  cases window : s.sched.window with
  | none => simp
  | some i =>
    cases row : s.store.window.active.rows[i]? with
    | none => simp [row]
    | some r => simp [row, Config.secondsPerDay]

/-! ### Presentation (02 R26) -/

theorem nextShotIn_eq (s : State) : s.nextShotIn =
    if s.sched.state = .running ∧ s.stretch ≠ .suspend
    then (s.sched.window.bind (fun i => s.store.window.active.rows[i]?)).map
      (fun r => ((min 86400 (r.interval * s.stretch.factor) : Nat) : Int) - s.sched.elapsed)
    else none := by
  unfold State.nextShotIn State.effectiveInterval
  rw [currentWindow_eq, suspended_eq]
  cases state : s.sched.state with
  | stopped => simp
  | running =>
    by_cases suspend : s.stretch = .suspend
    · simp [suspend]
    · rw [decide_eq_false suspend, if_neg (by decide), if_pos ⟨rfl, suspend⟩]
      cases s.sched.window.bind (fun i => s.store.window.active.rows[i]?) <;> rfl

theorem warmUpFor_eq (warmUp : Nat) (next : Option Int) : warmUpFor warmUp next = match next with
    | some n => decide (0 < warmUp ∧ n ≤ (warmUp : Int))
    | none => false := by
  cases next with
  | none => rfl
  | some n => simp [warmUpFor]

/-- A warm-up demand that begins clears the cycle hold (07 R131). -/
theorem present_eq (s : State) : s.present = { s with rails := { s.rails with
    timeToNext := s.nextShotIn, warmUp := warmUpFor s.settings.warmUp s.nextShotIn
    cycleHold := if s.rails.warmUp = false ∧ warmUpFor s.settings.warmUp s.nextShotIn = true then false
      else s.rails.cycleHold } } := by
  have hold : ∀ h w u : Bool, (h && !(w && !u)) = if u = false ∧ w = true then false else h := by decide
  simp only [State.present, hold]

/-! ### A scheduled shot falls due (02 R18 stage 4, R32) -/

theorem clearSagAtShot_eq (s : State) : s.clearSagAtShot = { s with meas := { s.meas with
    sagLatch := if s.settings.sagMode = .cycle ∧ s.meas.tripped = false then false else s.meas.sagLatch } } := by
  unfold State.clearSagAtShot
  cases mode : s.settings.sagMode <;> cases tripped : s.meas.tripped <;> simp

theorem makeCommit_none {s : State} (noCommit : s.store.commit = none) (points : List CommitPoint) : s.makeCommit points = s := by
  rw [State.makeCommit, noCommit]

/-- A pending commit is made at its own point. -/
theorem makeCommit_nextShot (s : State) : s.makeCommit [.nextShot] = match s.store.commit with
    | some ⟨ts, .nextShot⟩ => s.swap ts
    | _ => s := by
  unfold State.makeCommit
  match s.store.commit with
  | none => rfl
  | some ⟨_, .atOnce⟩ => rfl
  | some ⟨_, .nextShot⟩ => rfl
  | some ⟨_, .nextWindow⟩ => rfl

theorem makeCommit_nextWindow (s : State) : s.makeCommit [.nextWindow] = match s.store.commit with
    | some ⟨ts, .nextWindow⟩ => s.swap ts
    | _ => s := by
  unfold State.makeCommit
  match s.store.commit with
  | none => rfl
  | some ⟨_, .atOnce⟩ => rfl
  | some ⟨_, .nextShot⟩ => rfl
  | some ⟨_, .nextWindow⟩ => rfl

/-- What a due scheduled shot does before it is handled: elapsed 0, and the sag latch by its mode. -/
def State.zeroed (s : State) : State := { s with
  sched := { s.sched with elapsed := 0 }
  meas := { s.meas with
    sagLatch := if s.settings.sagMode = .cycle ∧ s.meas.tripped = false then false else s.meas.sagLatch } }

theorem scheduledShotDue_eq (s : State) : s.scheduledShotDue =
    (s.zeroed.makeCommit [.nextShot]).takeDueShot .scheduled (decide (s.stretch = .suspend)) := by
  unfold State.scheduledShotDue
  simp only [clearSagAtShot_eq, suspended_eq]
  rfl

/-! ### The Scheduler's state through its operations -/

theorem takeDueShot_sched (s : State) (kind : PendingKind) (suspended : Bool) :
    (s.takeDueShot kind suspended).sched = { s.sched with
      slot := (s.takeDueShot kind suspended).sched.slot
      nextNumber := (s.takeDueShot kind suspended).sched.nextNumber } := by
  unfold State.takeDueShot State.handleShot State.issueOrSkip
  split
  · rfl
  · split
    · split
      · rfl
      · dsimp only
        split
        · split <;> rfl
        · split <;> rfl
    · rfl

theorem selectWindow_sched (s : State) : s.selectWindow.sched = { s.sched with window := s.selectWindow.sched.window } := by
  unfold State.selectWindow
  split <;> rfl

theorem swap_sched (s : State) (ts : List Table) : (s.swap ts).sched = { s.sched with window := (s.swap ts).sched.window } := by
  unfold State.swap
  simp only [rampAfterSwap_sched]
  split
  · rw [selectWindow_sched, exchangeTables_sched]
  · rw [exchangeTables_sched]

theorem makeCommit_sched (s : State) (points : List CommitPoint) :
    (s.makeCommit points).sched = { s.sched with window := (s.makeCommit points).sched.window } := by
  unfold State.makeCommit
  split
  · rfl
  · split
    · exact swap_sched s _
    · rfl

/-! ### The tick while RUNNING -/

/-- The state at a tick with elapsed counted, before entry and due shot (02 R18 stage 1). -/
def State.counted (s : State) : State := s.ticked.countElapsed

theorem enterSilently_running {s : State} (running : s.sched.state = .running) : s.enterSilently = State.entryClamp { s with
    sched := { s.sched with window := windowAt s.windows s.time.secondOfDay } } := by
  rw [State.enterSilently, running]
  simp only [State.selectWindow, running]

theorem tickEntry_wrapped {s : State} (running : s.sched.state = .running) : s.ticked.tickEntry true =
    State.entryClamp { s.counted with sched := { s.counted.sched with
      window := windowAt s.store.window.active.rows s.time.nextSecond.secondOfDay } } := by
  have still : s.counted.sched.state = .running := running
  exact enterSilently_running still

theorem passingEntry_eq (s : State) : s.passingEntry = match s.startingRow with
    | none => s
    | some _ => match (s.makeCommit [.nextWindow]).startingRow with
      | none => s.makeCommit [.nextWindow]
      | some i => (s.makeCommit [.nextWindow]).enterRow i := rfl

theorem shootsAtEntry_iff (s : State) : s.shootsAtEntry = true ↔ s.startingRow ≠ none ∧
    ∃ i r, (s.makeCommit [.nextWindow]).startingRow = some i ∧
      (s.makeCommit [.nextWindow]).store.window.active.rows[i]? = some r ∧ r.shootAtStart = true := by
  unfold State.shootsAtEntry
  dsimp only
  cases s.startingRow with
  | none => simp
  | some j =>
    cases (s.makeCommit [.nextWindow]).startingRow with
    | none => simp
    | some i => simp [State.windows, Option.any_eq_true]

theorem tickEntry_sched (wrapped : Bool) (s : State) :
    (s.tickEntry wrapped).sched = { s.countElapsed.sched with window := (s.tickEntry wrapped).sched.window } := by
  unfold State.tickEntry
  split
  · unfold State.enterSilently
    split
    · rw [entryClamp_sched, selectWindow_sched]
    · rfl
  · rw [passingEntry_eq]
    split
    · rfl
    · split
      · exact makeCommit_sched _ _
      · rw [State.enterRow, entryClamp_sched]
        rw [makeCommit_sched]

theorem dueAtTick_iff (wrapped : Bool) (s : State) : s.dueAtTick wrapped = true ↔
    (wrapped = false ∧ s.countElapsed.shootsAtEntry = true) ∨ (s.tickEntry wrapped).intervalReached = true := by
  simp [State.dueAtTick]

theorem schedulerTick_running {s : State} (running : s.sched.state = .running) (wrapped : Bool) : s.schedulerTick wrapped =
    if s.dueAtTick wrapped = true then (s.tickEntry wrapped).scheduledShotDue else s.tickEntry wrapped := by
  rw [State.schedulerTick, running]

end Sys2Proof.Machine
end

section
/-! PROOF. A second tick while RUNNING, as its receivers see it (02 R18 to R22, R26, R32). -/

namespace Sys2Proof.Machine

/-- In RUN a tick's event ends with a presentation; outside RUN nothing is evaluated. -/
theorem secondTick_running {s : State} (running : s.sched.state = .running) (notReset : s.time.domain ≠ .reset) :
    s.secondTick =
      let y := if s.ticked.dueAtTick s.wraps = true then (s.ticked.tickEntry s.wraps).scheduledShotDue
        else s.ticked.tickEntry s.wraps
      if s.time.domain = .run then State.settle .protection s.ticked y.present else y := by
  have still : s.ticked.sched.state = .running := running
  dsimp only
  rw [← schedulerTick_running still, secondTick_eq]
  cases domain : s.time.domain with
  | reset => exact absurd domain notReset
  | powerBad => rfl
  | run => rfl

/-- The entry of a tick, by the wrap, the rows that start now before and after a NEXT_WINDOW commit. -/
theorem tickEntry_passing (s : State) : s.ticked.tickEntry false =
    match windowStarting s.store.window.active.rows s.time.nextSecond.secondOfDay with
    | none => s.counted
    | some _ =>
      match windowStarting (s.counted.makeCommit [.nextWindow]).store.window.active.rows s.time.nextSecond.secondOfDay with
      | none => s.counted.makeCommit [.nextWindow]
      | some i => (s.counted.makeCommit [.nextWindow]).enterRow i := by
  have starts : (s.counted.makeCommit [.nextWindow]).startingRow =
      windowStarting (s.counted.makeCommit [.nextWindow]).store.window.active.rows s.time.nextSecond.secondOfDay := by
    rw [State.startingRow, makeCommit_time]
    rfl
  have passing : s.ticked.tickEntry false = s.counted.passingEntry := rfl
  rw [passing, passingEntry_eq, starts]
  rfl

theorem tickEntry_elapsed (s : State) (wrapped : Bool) :
    (s.ticked.tickEntry wrapped).sched.elapsed = s.sched.elapsed + 1 ∧
      (s.ticked.tickEntry wrapped).sched.state = s.sched.state := by
  rw [tickEntry_sched]
  exact ⟨rfl, rfl⟩

/-- Whether a scheduled shot falls due at a tick: by an entry that shoots, or by the interval of the row it leaves. -/
theorem dueAtTick_iff_rows (s : State) : s.ticked.dueAtTick s.wraps = true ↔
    (s.time.calendar ≠ 0xFFFFFFFF ∧ windowStarting s.store.window.active.rows s.time.nextSecond.secondOfDay ≠ none ∧
      ∃ i r, windowStarting (s.counted.makeCommit [.nextWindow]).store.window.active.rows s.time.nextSecond.secondOfDay
          = some i ∧
        (s.counted.makeCommit [.nextWindow]).store.window.active.rows[i]? = some r ∧ r.shootAtStart = true) ∨
    ∃ i r, (s.ticked.tickEntry s.wraps).sched.window = some i ∧
      (s.ticked.tickEntry s.wraps).store.window.active.rows[i]? = some r ∧
      min 86400 (r.interval * (s.ticked.tickEntry s.wraps).stretch.factor) ≤ s.sched.elapsed + 1 := by
  have starts : (s.counted.makeCommit [.nextWindow]).startingRow =
      windowStarting (s.counted.makeCommit [.nextWindow]).store.window.active.rows s.time.nextSecond.secondOfDay := by
    rw [State.startingRow, makeCommit_time]
    rfl
  have shoots := shootsAtEntry_iff s.counted
  rw [starts] at shoots
  have wraps : s.wraps = false ↔ s.time.calendar ≠ 0xFFFFFFFF := by simp [State.wraps]
  rw [dueAtTick_iff, intervalReached_iff, (tickEntry_elapsed s s.wraps).1, wraps]
  exact or_congr (and_congr Iff.rfl shoots) Iff.rfl

/-! ### Without a pending commit -/

section NoCommit
variable {s : State} (noCommit : s.store.commit = none)
include noCommit

theorem counted_makeCommit (points : List CommitPoint) : s.counted.makeCommit points = s.counted :=
  makeCommit_none (s := s.counted) noCommit points

/-- The entry changes the window and the ramp alone. -/
theorem tickEntry_store (wrapped : Bool) : (s.ticked.tickEntry wrapped).store = s.store ∧
    (s.ticked.tickEntry wrapped).meas.tier = s.meas.tier := by
  cases wrapped with
  | true =>
    have silent : s.ticked.tickEntry true = s.counted.enterSilently := rfl
    rw [silent, enterSilently_store, enterSilently_meas]
    exact ⟨rfl, rfl⟩
  | false =>
    rw [tickEntry_passing, counted_makeCommit noCommit]
    split
    · exact ⟨rfl, rfl⟩
    · split
      · exact ⟨rfl, rfl⟩
      · rw [enterRow_store, enterRow_meas]
        exact ⟨rfl, rfl⟩

theorem tickEntry_window (running : s.sched.state = .running) : (s.ticked.tickEntry s.wraps).sched.window =
    if s.time.calendar = 0xFFFFFFFF then windowAt s.store.window.active.rows s.time.nextSecond.secondOfDay
    else match windowStarting s.store.window.active.rows s.time.nextSecond.secondOfDay with
      | some i => some i
      | none => s.sched.window := by
  by_cases wraps : s.time.calendar = 0xFFFFFFFF
  · have bool : s.wraps = true := decide_eq_true wraps
    rw [if_pos wraps, bool, tickEntry_wrapped running, entryClamp_sched]
  · have bool : s.wraps = false := decide_eq_false wraps
    rw [if_neg wraps, bool, tickEntry_passing, counted_makeCommit noCommit]
    have rows : s.counted.store.window.active.rows = s.store.window.active.rows := rfl
    rw [rows]
    cases windowStarting s.store.window.active.rows s.time.nextSecond.secondOfDay with
    | none => rfl
    | some i => exact congrArg Scheduler.window (entryClamp_sched _)

end NoCommit

theorem stretch_congr {a b : State} (tier : a.meas.tier = b.meas.tier) (bank : a.store.tier.active = b.store.tier.active) :
    a.stretch = b.stretch := by
  simp only [State.stretch, tierRow_congr tier bank]

theorem settle_sched (why : SkipReason) (before s : State) : (State.settle why before s).sched =
    { s.sched with slot := (State.settle why before s).sched.slot } := by
  obtain ⟨-, -, -, -, -, -, -, -, sched, -⟩ := settle_frame why before s
  exact sched

/-- A due shot without a pending commit leaves state and window, and elapsed 0. -/
theorem scheduledShotDue_sched {s : State} (noCommit : s.store.commit = none) : s.scheduledShotDue.sched.elapsed = 0 ∧
    s.scheduledShotDue.sched.state = s.sched.state ∧ s.scheduledShotDue.sched.window = s.sched.window := by
  rw [scheduledShotDue_eq, makeCommit_none (s := s.zeroed) noCommit, takeDueShot_sched]
  exact ⟨rfl, rfl, rfl⟩

/-- The Scheduler after a tick is that of its stages, but for the slot. -/
theorem secondTick_sched {s : State} (running : s.sched.state = .running) (notReset : s.time.domain ≠ .reset) {y : State}
    (stages : (if s.ticked.dueAtTick s.wraps = true then (s.ticked.tickEntry s.wraps).scheduledShotDue
      else s.ticked.tickEntry s.wraps) = y) :
    s.secondTick.sched.state = y.sched.state ∧ s.secondTick.sched.window = y.sched.window ∧
      s.secondTick.sched.elapsed = y.sched.elapsed := by
  rw [secondTick_running running notReset]
  dsimp only
  rw [stages]
  split
  · rw [settle_sched, present_sched]
    exact ⟨rfl, rfl, rfl⟩
  · exact ⟨rfl, rfl, rfl⟩

/-- With no commit pending: the row that starts now is entered, and elapsed starts anew with a due shot (02 R18). -/
theorem secondTick_running_noCommit {s : State} (running : s.sched.state = .running) (notReset : s.time.domain ≠ .reset)
    (noCommit : s.store.commit = none) :
    s.secondTick.sched.state = .running ∧
      s.secondTick.sched.window = (s.ticked.tickEntry s.wraps).sched.window ∧
      (s.ticked.dueAtTick s.wraps = true → s.secondTick.sched.elapsed = 0) ∧
      (¬ s.ticked.dueAtTick s.wraps = true → s.secondTick.sched.elapsed = s.sched.elapsed + 1) := by
  obtain ⟨elapsed, state⟩ := tickEntry_elapsed s s.wraps
  by_cases due : s.ticked.dueAtTick s.wraps = true
  · have commit : (s.ticked.tickEntry s.wraps).store.commit = none := by rw [(tickEntry_store noCommit s.wraps).1, noCommit]
    obtain ⟨zero, running', window⟩ := scheduledShotDue_sched commit
    obtain ⟨st, wi, el⟩ := secondTick_sched running notReset (if_pos due)
    exact ⟨by rw [st, running', state, running], wi.trans window, fun _ => el.trans zero, fun no => absurd due no⟩
  · obtain ⟨st, wi, el⟩ := secondTick_sched running notReset (if_neg due)
    exact ⟨by rw [st, state, running], wi, fun yes => absurd yes due, fun _ => el.trans elapsed⟩

/-- Settles O18: the tick's stages, each by its own lemma; without a pending commit the entry leaves store and tier. -/
theorem runningTickCountsAndEnters : Obligations.RunningTickCountsAndEnters := by
  refine ⟨fun s running notReset noCommit => ?_, fun s running notReset => ?_, fun s => ?_, fun s => ⟨?_, ?_, ?_⟩, fun rows d sorted =>
    ⟨fun _ _ => windowAt_of_row sorted, fun _ => windowAt_before sorted, fun empty => if_pos empty,
      fun _ _ => windowStarting_of_row sorted, fun other => ?_⟩⟩
  case refine_1 =>
    intro now rows starts wraps current due
    obtain ⟨store, tier⟩ := tickEntry_store noCommit s.wraps
    have window : (s.ticked.tickEntry s.wraps).sched.window = current := tickEntry_window noCommit running
    have due_iff : s.ticked.dueAtTick s.wraps = true ↔ due := by
      rw [dueAtTick_iff_rows, counted_makeCommit noCommit, window, store,
        stretch_congr (a := s.ticked.tickEntry s.wraps) (b := s) tier (by rw [store])]
      refine or_congr (and_congr Iff.rfl ⟨fun ⟨_, entered⟩ => entered, fun entered => ⟨?_, entered⟩⟩) Iff.rfl
      obtain ⟨i, r, start, -⟩ := entered
      exact fun absent => nomatch start.symm.trans absent
    obtain ⟨state, window', zero, more⟩ := secondTick_running_noCommit running notReset noCommit
    exact ⟨_, rfl, state, window'.trans window, fun h => zero (due_iff.mpr h), fun h => more fun yes => h (due_iff.mp yes)⟩
  case refine_2 =>
    intro a now old counted starts swapped wraps entered due ends
    have swapped_eq : s.counted.makeCommit [.nextWindow] = swapped := makeCommit_nextWindow s.counted
    have entered_eq : s.ticked.tickEntry s.wraps = entered := by
      by_cases wrap : wraps
      · have bool : s.wraps = true := decide_eq_true wrap
        rw [bool, tickEntry_wrapped running]
        exact (if_pos wrap).symm
      · have bool : s.wraps = false := decide_eq_false wrap
        rw [bool, tickEntry_passing, swapped_eq]
        exact (if_neg wrap).symm
    have due_iff : s.ticked.dueAtTick s.wraps = true ↔ due := by
      rw [dueAtTick_iff_rows, swapped_eq, entered_eq]
      exact Iff.rfl
    have stages : s.secondTick = ends (if s.ticked.dueAtTick s.wraps = true then entered.scheduledShotDue else entered) := by
      rw [secondTick_running running notReset, entered_eq]
      rfl
    refine ⟨fun h => congrArg Host.Outcome.next ?_, fun h => congrArg Host.Outcome.next ?_⟩
    · rw [stages, if_pos (due_iff.mpr h)]
    · rw [stages, if_neg fun yes => h (due_iff.mp yes)]
  case refine_3 =>
    rw [scheduledShotDue_eq, makeCommit_nextShot]
    rfl
  case refine_4 =>
    have shown := present_eq s
    rw [nextShotIn_eq, warmUpFor_eq] at shown
    exact shown
  case refine_5 => exact nextShotIn_eq s
  case refine_6 => exact warmUpFor_eq _ _
  case refine_7 =>
    refine List.findIdx?_eq_none_iff.mpr fun r mem => ?_
    exact decide_eq_false (other r mem)

end Sys2Proof.Machine
end

section
/-! PROOF. Supply domains (01 R11 to R13): the entries that hold the main domain, its release and its return. -/

namespace Sys2Proof.Machine

/-! ### Entries (01 R13) -/

theorem endPending_eq (why : SkipReason) (s : State) : s.endPending why = { s with
    sched := { s.sched with slot := none }
    counters := if s.sched.slot = none then s.counters
      else s.counters.put why.counter (satInc (s.counters.value why.counter)) } := by
  rcases s with ⟨_, ⟨_, _, _, slot, _, _⟩, _, _, _, _, _, _, _, _, _, _, _, _, _, _, _⟩
  cases slot <;> rfl

theorem holdMain_value (s : State) {k : Counter} (other : k ≠ .lost) : s.holdMain.counters.value k = s.counters.value k :=
  put_value_of_ne other

theorem supokSeen_low {s : State} (run : s.time.domain = .run) (high : s.pins.supok = true) :
    s.supokSeen false = (s.seeSupok false).powerBadEntry := by
  unfold State.supokSeen
  rw [if_neg (by rw [high]; decide)]
  simp only [run]

/-- Settles O21: both entries are `holdMain`, and power-bad entry ends a pending shot as well. -/
theorem supplyEntriesHoldTheMainDomain : Obligations.SupplyEntriesHoldTheMainDomain := by
  intro c d s entry
  obtain ⟨rfl, rfl, notReset⟩ | ⟨rfl, rfl, run, high⟩ := entry
  · refine ⟨s.holdMain.enterDomain .reset, congrArg Host.Outcome.next (if_neg notReset), rfl, rfl, rfl, rfl, rfl, rfl,
      abandon_load _, rfl, rfl, rfl, rfl, rfl, rfl, rfl, fun k other _ => holdMain_value s other,
      fun _ => ⟨rfl, holdMain_value s (k := .skippedPower) (by decide), rfl, rfl⟩, nofun⟩
  · refine ⟨_, congrArg Host.Outcome.next (supokSeen_low run high), ?_⟩
    rw [State.powerBadEntry, endPending_eq]
    refine ⟨rfl, rfl, rfl, rfl, rfl, rfl, abandon_load _, rfl, rfl, rfl, rfl, rfl, rfl, ?_, fun k notLost notPower => ?_,
      nofun, fun _ => ⟨rfl, ?_, rfl, rfl⟩⟩
    · dsimp only [enterDomain_counters]
      split <;> rfl
    · dsimp only [enterDomain_counters]
      split
      · exact holdMain_value _ notLost
      · exact (put_value_of_ne (k := .skippedPower) notPower).trans (holdMain_value _ notLost)
    · dsimp only [enterDomain_counters]
      by_cases slot : s.sched.slot = none
      · have empty : (s.seeSupok false).holdMain.sched.slot = none := slot
        rw [if_pos empty, if_pos slot]
        rfl
      · have filled : (s.seeSupok false).holdMain.sched.slot ≠ none := slot
        rw [if_neg filled, if_neg slot]
        rfl

/-! ### The release -/

/-- The end of an event compares with the outputs before it alone. -/
theorem settle_before {a b : State} (rails : a.rails = b.rails) (why : SkipReason) (s : State) :
    State.settle why a s = State.settle why b s := by
  simp only [State.settle, State.conclude, State.concludeLoads, State.reportEdges, rails]

/-- The main domain at its release, before its start and entry (01 R12). -/
def State.released (s : State) (d : Domain) (state : SchedState) (window : Option Nat) : State := { s with
  time := { s.time with domain := d }
  sched := { s.sched with state := state, window := window, elapsed := 0, slot := none }
  counters := if s.sched.slot = none then s.counters
    else s.counters.put .skippedPower (satInc s.counters.skippedPower)
  queue := { s.queue with failures := 0, faultCode := none }
  retention := { s.retention with decimation := List.replicate s.store.retention.active.rows.length 0 } }

/-- Whether a release enters RUNNING (02 R34). -/
def State.autoruns (s : State) : Prop := s.settings.autorun = true ∧ s.store.allValid = true

theorem warmValues_running {s : State} (runs : s.autoruns) (d : Domain) : s.warmValues d = s.released d .running none := by
  unfold State.warmValues
  simp only [endPending_eq, enterDomain_settings, enterDomain_store, runs.1, runs.2]
  rfl

theorem warmValues_stopped {s : State} (stops : ¬ s.autoruns) (d : Domain) : s.warmValues d = s.released d .stopped none := by
  have no : (s.settings.autorun && s.store.allValid) = false := by
    rw [Bool.and_eq_false_iff]
    by_contra both
    exact stops (by simpa [State.autoruns, not_or] using both)
  unfold State.warmValues
  simp only [endPending_eq, enterDomain_settings, enterDomain_store, no]
  rfl

theorem warmEntry_stopped {s : State} (stopped : s.sched.state = .stopped) : s.warmEntry = s := by
  rw [State.warmEntry, stopped]

/-- An entry with its clamp, and the scheduled shot that it makes due. -/
def State.warmShot (s : State) : State := s.entryClamp.takeDueShot .scheduled s.suspended

theorem warmEntry_running {s : State} (running : s.sched.state = .running) : s.warmEntry =
    State.warmShot { s with sched := { s.sched with window := windowAt s.windows s.time.secondOfDay } } := by
  unfold State.warmEntry State.warmShot
  rw [running]
  dsimp only
  rw [enterSilently_running running]
  have same : ∀ x : State, x.entryClamp.suspended = x.suspended := fun x => by
    have stretch : x.entryClamp.stretch = x.stretch := stretch_congr (by rw [entryClamp_meas]) (by rw [entryClamp_store])
    rw [suspended_eq, suspended_eq, stretch]
  rw [same]

section Release
variable {s : State}

theorem warmReset_eq (held : s.time.domain = .reset) : exec .warmReset s = .next
    (if s.pins.supok = true then s.releaseToRun else s.releaseToPowerBad) :=
  congrArg Host.Outcome.next (if_pos held)

theorem releaseToRun_running (runs : s.autoruns) : s.releaseToRun = (State.settle .protection s (State.present
    (State.warmShot (State.startMain (s.released .run .running (windowAt s.windows s.time.secondOfDay)))))).arbitrate := by
  unfold State.releaseToRun
  dsimp only
  rw [warmValues_running runs]
  have running : (s.released .run .running none).startMain.sched.state = .running := rfl
  rw [warmEntry_running running, State.finishStart, settle_before (b := s) rfl]
  rfl

theorem releaseToRun_stopped (stops : ¬ s.autoruns) : s.releaseToRun = (State.settle .protection s (State.present
    (State.startMain (s.released .run .stopped none)))).arbitrate := by
  unfold State.releaseToRun
  dsimp only
  rw [warmValues_stopped stops]
  have stopped : (s.released .run .stopped none).startMain.sched.state = .stopped := rfl
  rw [warmEntry_stopped stopped, State.finishStart]
  exact congrArg State.arbitrate (settle_before rfl .protection _)

theorem releaseToPowerBad_running (runs : s.autoruns) : s.releaseToPowerBad =
    State.warmShot (s.released .powerBad .running (windowAt s.windows s.time.secondOfDay)) := by
  unfold State.releaseToPowerBad
  rw [warmValues_running runs]
  have running : (s.released .powerBad .running none).sched.state = .running := rfl
  rw [warmEntry_running running]
  rfl

theorem releaseToPowerBad_stopped (stops : ¬ s.autoruns) : s.releaseToPowerBad = s.released .powerBad .stopped none := by
  unfold State.releaseToPowerBad
  rw [warmValues_stopped stops]
  exact warmEntry_stopped rfl

end Release

/-! ### Measurement at a start (08 R151) -/

/-- BATTERY and TEMPERATURE are asked for, and nothing but BATTERY is converted. -/
def Asked (m : Measurement) : Prop :=
  (m.requests.battery = true ∨ m.converting = some .battery) ∧ m.requests.temperature = true ∧
    (m.converting = none ∨ m.converting = some .battery)

theorem first_battery {r : Requests} (battery : r.battery = true) : r.first = some .battery := if_pos battery

theorem asked_arbitrate {s : State} (h : Asked s.meas) : Asked s.arbitrate.meas := by
  unfold State.arbitrate
  split
  · rename_i c _ idle _ first
    obtain ⟨battery | busy, temperature, -⟩ := h
    · cases first.symm.trans (first_battery battery)
      exact ⟨.inr rfl, temperature, .inr rfl⟩
    · cases idle.symm.trans busy
  · exact h

theorem asked_spoil {s : State} (h : Asked s.meas) : Asked s.spoil.meas := by
  obtain ⟨-, temperature, idle | busy⟩ := id h
  · rw [spoil_none idle]
    exact h
  · rw [spoil_some busy]
    exact ⟨.inl rfl, temperature, .inl rfl⟩

theorem asked_settle (why : SkipReason) (before : State) {s : State} (h : Asked s.meas) :
    Asked (State.settle why before s).meas := by
  have loads : Asked (s.refreshDemand.driveCapture why).sessionAfter.driveLoads.meas := by simpa using h
  unfold State.settle State.conclude State.concludeLoads State.reportEdges
  split
  · refine asked_arbitrate (asked_spoil ?_)
    rw [openBlanking_meas]
    exact loads
  · exact loads

end Sys2Proof.Machine
end

section
/-! PROOF. Supply domains (01 R12, R13): the start of the main domain at a release and at a return. -/

namespace Sys2Proof.Machine

/-! ### A start -/

/-- What a start of the main domain ends from: RUN with the outputs off, no record, the session OFF. -/
structure AtStart (x : State) : Prop where
  run : x.time.domain = .run
  records : x.queue.records = []
  module : x.queue.module = .unpowered
  off : x.session.state = .off
  capture : x.rails.capture = false
  asked : Asked x.meas

/-- The end of a start (02 R26, 07 R143, R144, 08 R163). -/
def State.endStart (x before : State) : State := (State.settle .protection before x.present).arbitrate

section EndOfStart
variable (before : State) {x : State} (start : AtStart x)
include start

theorem noOff_of_start : ¬ (x.present.refreshDemand.rails.capture = true ∧ x.present.refreshDemand.captureLevel = false) := by
  have off : x.present.refreshDemand.rails.capture = false := start.capture
  rw [off]
  exact fun h => nomatch h.1

theorem endStart_queue : (x.endStart before).queue.records = [] ∧ (x.endStart before).queue.failures = x.queue.failures ∧
    (x.endStart before).queue.faultCode = x.queue.faultCode := by
  obtain ⟨-, -, -, -, -, -, -, -, -, -, -, failures, faultCode, -⟩ := settle_frame .protection before x.present
  unfold State.endStart
  rw [arbitrate_queue]
  refine ⟨?_, failures, faultCode⟩
  have notAwake : x.present.refreshDemand.session.state ≠ .awake := fun awake => nomatch start.off.symm.trans awake
  exact (conclude_records_noOff .protection before (noOff_of_start start) notAwake).trans start.records

theorem endStart_sched : (x.endStart before).sched = x.sched := by
  have slot := conclude_slot_noOff .protection before (noOff_of_start start)
  obtain ⟨-, -, -, -, -, -, -, -, sched, -⟩ := settle_frame .protection before x.present
  unfold State.endStart
  rw [arbitrate_sched, sched, State.settle, slot]
  rfl

theorem endStart_store : (x.endStart before).store = x.store := by
  have open_ : x.present.refreshDemand.session.state ≠ .closing := fun closing => nomatch start.off.symm.trans closing
  unfold State.endStart
  rw [arbitrate_store]
  exact (conclude_outOfSession .protection before open_).1

/-- The session after a start: OFF, or WAKING by a wake that the same moment lets begin. -/
theorem endStart_session : (x.endStart before).session = (x.present.refreshDemand.driveCapture .protection).evaluateWake.session := by
  have off : (x.present.refreshDemand.driveCapture .protection).session.state = .off := by simpa using start.off
  unfold State.endStart
  rw [arbitrate_session, State.settle, State.conclude, concludeLoads_session, sessionAfter_off off]

theorem endStart_restTimer : (x.endStart before).session.restTimer = x.session.restTimer := by
  rw [endStart_session before start, evaluateWake_eq]
  split
  · simp [State.wake]
  · simp

theorem endStart_asked : Asked (x.endStart before).meas := asked_arbitrate (asked_settle .protection before start.asked)

end EndOfStart

/-- The blocks that the end of a start leaves alone. -/
theorem endStart_frame (before x : State) : (x.endStart before).time = x.time ∧ (x.endStart before).ramp = x.ramp ∧
    (x.endStart before).retention = x.retention ∧ (x.endStart before).settings = x.settings ∧
    (x.endStart before).flags = x.flags ∧ (x.endStart before).inputs = x.inputs ∧ (x.endStart before).pins = x.pins := by
  obtain ⟨time, ramp, retention, settings, flags, inputs, pins, -⟩ := settle_frame .protection before x.present
  unfold State.endStart
  simp only [arbitrate_time, arbitrate_ramp, arbitrate_retention, arbitrate_settings, arbitrate_flags, arbitrate_inputs,
    arbitrate_pins]
  exact ⟨time, ramp, retention, settings, flags, inputs, pins⟩

theorem endStart_rails (before x : State) : (x.endStart before).rails = { x.present.rails with
    capture := (x.endStart before).rails.capture, recorder := (x.endStart before).rails.recorder
    heater := (x.endStart before).rails.heater, demand := (x.endStart before).rails.demand } := by
  obtain ⟨-, -, -, -, -, -, -, -, -, rails, -⟩ := settle_frame .protection before x.present
  unfold State.endStart
  rw [arbitrate_rails]
  exact rails

theorem endStart_meas (before x : State) : (x.endStart before).meas = { x.meas with
    converting := (x.endStart before).meas.converting, conversion := (x.endStart before).meas.conversion
    requests := (x.endStart before).meas.requests, blanking := (x.endStart before).meas.blanking } := by
  obtain ⟨-, -, -, -, -, -, -, -, -, -, meas, -⟩ := settle_frame .protection before x.present
  unfold State.endStart
  rw [arbitrate_meas, meas]
  rfl

/-! ### The shot of a warm reset -/

/-- A shot taken with no module ready moves the slot, its counter and the cycle hold. -/
theorem takeDueShot_notReady {s : State} (notReady : s.queue.module ≠ .ready) (kind : PendingKind) (suspended : Bool) :
    ∃ (slot : Option PendingShot) (counters : Counters) (hold : Bool), s.takeDueShot kind suspended = { s with
      sched := { s.sched with slot := slot }, counters := counters, rails := { s.rails with cycleHold := hold } } := by
  cases suspended with
  | true => exact ⟨s.sched.slot, _, s.rails.cycleHold, rfl⟩
  | false =>
    by_cases run : s.time.domain = .run
    · rw [takeDueShot_run run]
      cases free : s.protectedNow with
      | true =>
        rw [handleShot_protected free]
        exact ⟨s.sched.slot, _, s.rails.cycleHold, rfl⟩
      | false =>
        rw [handleShot_notReady free notReady]
        split
        · exact ⟨s.sched.slot, _, s.rails.cycleHold, rfl⟩
        · exact ⟨_, s.counters, false, rfl⟩
    · rw [takeDueShot_held run]
      exact ⟨s.sched.slot, _, s.rails.cycleHold, rfl⟩

theorem entryClamp_eq (s : State) : s.entryClamp = { s with ramp := { s.ramp with
    position := s.entryClamp.ramp.position, generation := s.entryClamp.ramp.generation } } := by
  unfold State.entryClamp
  split <;> rfl

/-- What an entry with its shot leaves alone while the module is not ready. -/
theorem warmShot_notReady {s : State} (notReady : s.queue.module ≠ .ready) :
    ∃ (slot : Option PendingShot) (counters : Counters) (hold : Bool) (position : Nat) (generation : Word16),
      s.warmShot = { s with
        sched := { s.sched with slot := slot }, counters := counters, rails := { s.rails with cycleHold := hold }
        ramp := { s.ramp with position := position, generation := generation } } := by
  have still : s.entryClamp.queue.module ≠ .ready := by simpa using notReady
  obtain ⟨slot, counters, hold, shot⟩ := takeDueShot_notReady still .scheduled s.suspended
  refine ⟨slot, counters, hold, s.entryClamp.ramp.position, s.entryClamp.ramp.generation, ?_⟩
  unfold State.warmShot
  rw [shot]
  conv_lhs => rw [entryClamp_eq s]

/-- Outside RUN the shot of an entry is skipped, which is counted and nothing else. -/
theorem warmShot_held {s : State} (held : s.time.domain ≠ .run) : ∃ (counters : Counters) (position : Nat) (generation : Word16),
    s.warmShot = { s with counters := counters, ramp := { s.ramp with position := position, generation := generation } } := by
  have still : s.entryClamp.time.domain ≠ .run := by simpa using held
  have shot : ∃ why, s.warmShot = s.entryClamp.skip why := by
    unfold State.warmShot
    cases s.suspended with
    | true => exact ⟨.suspended, rfl⟩
    | false => exact ⟨.power, takeDueShot_held still .scheduled⟩
  obtain ⟨why, shot⟩ := shot
  refine ⟨(s.skip why).counters, s.entryClamp.ramp.position, s.entryClamp.ramp.generation, ?_⟩
  rw [shot]
  conv_lhs => rw [entryClamp_eq s]
  rfl

/-! ### The release (01 R12) -/

/-- The main domain as a release or a return into RUN starts it. -/
theorem atStart_startMain {x : State} (run : x.time.domain = .run) (records : x.queue.records = [])
    (module : x.queue.module = .unpowered) (off : x.session.state = .off) (capture : x.rails.capture = false)
    (converting : x.meas.converting = none) : AtStart x.startMain where
  run := run
  records := records
  module := module
  off := off
  capture := capture
  asked := ⟨.inl rfl, rfl, .inl converting⟩

theorem AtStart.warmShot {x : State} (start : AtStart x) : AtStart x.warmShot := by
  have notReady : x.queue.module ≠ .ready := fun ready => nomatch start.module.symm.trans ready
  obtain ⟨slot, counters, hold, position, generation, shot⟩ := warmShot_notReady notReady
  rw [shot]
  exact ⟨start.run, start.records, start.module, start.off, start.capture, start.asked⟩

/-- The state that a release into RUN ends from. -/
def State.begun (s : State) : State :=
  if s.settings.autorun = true ∧ s.store.allValid = true
  then State.warmShot (State.startMain (s.released .run .running (windowAt s.windows s.time.secondOfDay)))
  else State.startMain (s.released .run .stopped none)

theorem releaseToRun_eq (s : State) : s.releaseToRun = s.begun.endStart s := by
  unfold State.begun
  split
  case isTrue runs => exact releaseToRun_running runs
  case isFalse stops => exact releaseToRun_stopped stops

/-- What the main domain's start and its first entry leave in a released state. -/
structure BegunFrom (s t : State) : Prop where
  start : AtStart t
  time : t.time = { s.time with domain := .run }
  sched : t.sched = { s.sched with
    state := t.sched.state, window := t.sched.window, elapsed := 0, slot := t.sched.slot }
  entered : s.autoruns → t.sched.state = .running ∧ t.sched.window = windowAt s.windows s.time.secondOfDay
  stopped : ¬ s.autoruns → t.sched.state = .stopped ∧ t.sched.window = none ∧ t.sched.slot = none
  ramp : t.ramp.lastCorrection = s.ramp.lastCorrection
  failures : t.queue.failures = 0
  faultCode : t.queue.faultCode = none
  retention : t.retention = ⟨List.replicate s.store.retention.active.rows.length 0, s.retention.lastKeptCenter⟩
  store : t.store = s.store
  settings : t.settings = s.settings
  flags : t.flags = s.flags
  inputs : t.inputs = s.inputs
  pins : t.pins = s.pins
  restTimer : t.session.restTimer = Timer.startSeconds s.settings.restSpan
  rails : t.rails.moduleLatch = s.rails.moduleLatch ∧ t.rails.band = s.rails.band ∧
    t.rails.heaterPeriod = Timer.startSeconds s.settings.heaterPeriod ∧ t.rails.periodDuty = s.bandDuty
  meas : t.meas.tier = s.meas.tier ∧ t.meas.lastBattery = s.meas.lastBattery ∧
    t.meas.lastTemperature = s.meas.lastTemperature ∧ t.meas.lastAux = s.meas.lastAux ∧
    t.meas.measurePeriod = Timer.startSeconds s.settings.measurePeriod

theorem begun_from {s : State} (held : s.time.domain = .reset) (main : MainHeld s) : BegunFrom s s.begun := by
  obtain ⟨-, cold⟩ := main
  obtain ⟨queue, session, rails, meas, -⟩ := cold (by rw [held]; decide)
  have begins (state : SchedState) (window : Option Nat) : AtStart (s.released .run state window).startMain :=
    atStart_startMain rfl (congrArg ShotQueue.records queue) (congrArg ShotQueue.module queue)
      (congrArg Session.state session) (congrArg Rails.capture rails) (congrArg Measurement.converting meas)
  unfold State.begun
  split
  case isTrue runs =>
    have start := begins .running (windowAt s.windows s.time.secondOfDay)
    have notReady : (s.released .run .running (windowAt s.windows s.time.secondOfDay)).startMain.queue.module ≠ .ready :=
      fun ready => nomatch start.module.symm.trans ready
    obtain ⟨slot, counters, hold, position, generation, shot⟩ := warmShot_notReady notReady
    have warm := start.warmShot
    rw [shot] at warm ⊢
    exact ⟨warm, rfl, rfl, fun _ => ⟨rfl, rfl⟩, fun stops => absurd runs stops, rfl, rfl, rfl, rfl, rfl, rfl, rfl, rfl, rfl,
      rfl, ⟨rfl, rfl, rfl, rfl⟩, ⟨rfl, rfl, rfl, rfl, rfl⟩⟩
  case isFalse stops =>
    exact ⟨begins .stopped none, rfl, rfl, fun runs => absurd runs stops, fun _ => ⟨rfl, rfl, rfl⟩, rfl, rfl, rfl, rfl, rfl,
      rfl, rfl, rfl, rfl, rfl, ⟨rfl, rfl, rfl, rfl⟩, ⟨rfl, rfl, rfl, rfl, rfl⟩⟩

/-- Settles O22: a release is one of four states, and its start in RUN leaves them to the end of a start. -/
theorem warmResetReleasesTheMainDomain : Obligations.WarmResetReleasesTheMainDomain := by
  refine ⟨fun s held main => ?_, fun s held => ?_⟩
  · intro runs
    cases supok : s.pins.supok with
    | true =>
      have b := begun_from held main
      refine ⟨s.begun.endStart s, ?_, ?_⟩
      · rw [warmReset_eq held, if_pos supok, releaseToRun_eq]
      obtain ⟨time, ramp, retention, settings, flags, inputs, pins⟩ := endStart_frame s s.begun
      have sched := endStart_sched s b.start
      obtain ⟨records, failures, faultCode⟩ := endStart_queue s b.start
      obtain ⟨latch, band, heaterPeriod, periodDuty⟩ := b.rails
      obtain ⟨tier, battery, temperature, aux, measurePeriod⟩ := b.meas
      obtain ⟨asked, askedT, -⟩ := endStart_asked s b.start
      rw [time, ramp, retention, settings, flags, inputs, pins, sched, failures, faultCode, endStart_rails, endStart_store s b.start,
        endStart_restTimer s b.start]
      have m := endStart_meas s s.begun
      refine ⟨b.time, b.entered, b.stopped, congrArg Scheduler.elapsed b.sched, (congrArg Scheduler.refractory b.sched :),
        (congrArg Scheduler.nextNumber b.sched :), records, b.failures, b.faultCode, b.retention, b.store, b.settings, b.flags,
        b.inputs, b.pins, b.ramp, latch, band, (congrArg Measurement.tier m).trans tier,
        (congrArg Measurement.lastBattery m).trans battery, (congrArg Measurement.lastTemperature m).trans temperature,
        (congrArg Measurement.lastAux m).trans aux, fun _ => ⟨b.restTimer, heaterPeriod, periodDuty,
          (congrArg Measurement.measurePeriod m).trans measurePeriod, asked, askedT⟩, nofun⟩
    | false =>
      obtain ⟨-, cold⟩ := main
      obtain ⟨queue, session, rails, meas, -⟩ := cold (by rw [held]; decide)
      have records : s.queue.records = [] := congrArg ShotQueue.records queue
      have module : s.queue.module = .unpowered := congrArg ShotQueue.module queue
      refine ⟨s.releaseToPowerBad, ?_, ?_⟩
      · rw [warmReset_eq held, if_neg (by rw [supok]; decide)]
      by_cases runs : s.autoruns
      · obtain ⟨counters, position, generation, shot⟩ := warmShot_held
          (s := s.released .powerBad .running (windowAt s.windows s.time.secondOfDay)) nofun
        rw [releaseToPowerBad_running runs, shot]
        exact ⟨rfl, fun _ => ⟨rfl, rfl⟩, fun stops => absurd runs stops, rfl, rfl, rfl, records, rfl, rfl, rfl, rfl, rfl, rfl,
          rfl, rfl, rfl, rfl, rfl, rfl, rfl, rfl, rfl, nofun, fun _ => ⟨rfl, rfl, rfl, module⟩⟩
      · rw [releaseToPowerBad_stopped runs]
        exact ⟨rfl, fun yes => absurd yes runs, fun _ => ⟨rfl, rfl, rfl⟩, rfl, rfl, rfl, records, rfl, rfl, rfl, rfl, rfl, rfl,
          rfl, rfl, rfl, rfl, rfl, rfl, rfl, rfl, rfl, nofun, fun _ => ⟨rfl, rfl, rfl, module⟩⟩
  · intro runs released started entered shot ends
    have shot_eq : ∀ x : State, x.stretch = s.stretch → x.warmShot = shot x := fun x same => by
      unfold State.warmShot
      rw [suspended_eq, same]
    refine ⟨fun high yes => ?_, fun high no => ?_, fun low yes => ?_, fun low no => ?_⟩
    · rw [warmReset_eq held, if_pos high, releaseToRun_running yes,
        shot_eq (State.startMain (s.released .run .running (windowAt s.windows s.time.secondOfDay))) (stretch_congr rfl rfl)]
      rfl
    · rw [warmReset_eq held, if_pos high, releaseToRun_stopped no]
      rfl
    · rw [warmReset_eq held, if_neg (by rw [low]; decide), releaseToPowerBad_running yes,
        shot_eq (s.released .powerBad .running (windowAt s.windows s.time.secondOfDay)) (stretch_congr rfl rfl)]
      rfl
    · rw [warmReset_eq held, if_neg (by rw [low]; decide), releaseToPowerBad_stopped no]
      rfl

end Sys2Proof.Machine
end

section
/-! PROOF. Supply domains (01 R13): power-bad return. -/

namespace Sys2Proof.Machine

theorem supokSeen_high {s : State} (held : s.time.domain = .powerBad) (low : s.pins.supok = false) :
    s.supokSeen true = (s.seeSupok true).powerBadReturn := by
  unfold State.supokSeen
  rw [if_neg (by rw [low]; decide)]
  simp only [held]

/-- The main domain at a return, before its evaluations. -/
def State.returned (s : State) : State := ((s.seeSupok true).enterDomain .run).startMain

/-- Before the return, with the outputs as power-bad left them. -/
def State.returning (s : State) : State := (s.seeSupok true).enterDomain .run

theorem powerBadReturn_eq (s : State) : (s.seeSupok true).powerBadReturn = s.returned.endStart s.returning := rfl

/-- The outputs at the end of a start from outputs that are off (07 R126). -/
theorem endStart_capture (before x : State) : (x.endStart before).rails.capture = x.present.refreshDemand.captureLevel := by
  unfold State.endStart
  rw [arbitrate_rails]
  exact conclude_capture .protection before x.present.refreshDemand

theorem endStart_recorder (before x : State) :
    (x.endStart before).rails.recorder = true ↔ x.time.domain = .run ∧ (x.endStart before).session.state ≠ .off := by
  have level := concludeLoads_recorder before (x.present.refreshDemand.driveCapture .protection).sessionAfter
  unfold State.endStart
  rw [arbitrate_rails, arbitrate_session]
  refine (Eq.to_iff (congrArg (· = true) level)).trans ((recorderLevel_iff _).trans ?_)
  simp only [concludeLoads_time, sessionAfter_time, driveCapture_time]
  exact Iff.rfl

theorem endStart_heater (before x : State) : (x.endStart before).rails.heater = (x.endStart before).heaterLevel := by
  have level := concludeLoads_heater before (x.present.refreshDemand.driveCapture .protection).sessionAfter
  have same : (x.endStart before).heaterLevel = (State.settle .protection before x.present).heaterLevel := by
    unfold State.endStart
    rw [Bool.eq_iff_iff, heaterLevel_iff, heaterLevel_iff, tierBansHeat_congr (a := State.arbitrate _) (b := State.settle .protection before x.present) (by rw [arbitrate_meas]) (by rw [arbitrate_store])]
    simp only [arbitrate_time, arbitrate_queue, arbitrate_settings, arbitrate_rails]
    rw [arbitrate_meas]
  rw [same]
  unfold State.endStart
  rw [arbitrate_rails]
  exact level

/-- The module after a start: BOOTING under its limit while the rail came on. -/
theorem endStart_module (before : State) {x : State} (start : AtStart x) :
    ((x.endStart before).rails.capture = true → (x.endStart before).queue.module = .booting ∧
      (x.endStart before).queue.bootTimer = Timer.start x.settings.bootLimit) ∧
    ((x.endStart before).rails.capture = false → (x.endStart before).queue.module = .unpowered) := by
  have off : x.present.refreshDemand.rails.capture = false := start.capture
  rw [endStart_capture]
  unfold State.endStart
  rw [arbitrate_queue]
  refine ⟨conclude_boot .protection before off, fun level => ?_⟩
  exact (conclude_noEdge .protection before (level.trans off.symm)).1.trans start.module

/-- Three outputs that are off. -/
def Rails.dark (r : Rails) : Prop := r.capture = false ∧ r.recorder = false ∧ r.heater = false

theorem selected_of_dark {before : Rails} (dark : before.dark) (after : Rails) (edges : List EdgeKind) :
    (∃ k ∈ outputEdges before after, k ∈ edges) ↔ (after.capture = true ∧ .captureOn ∈ edges) ∨
      (after.recorder = true ∧ .recorderOn ∈ edges) ∨ (after.heater = true ∧ .heaterOn ∈ edges) := by
  obtain ⟨capture, recorder, heater⟩ := dark
  constructor
  · rintro ⟨k, edge, chosen⟩
    rw [mem_outputEdges] at edge
    cases k <;> simp_all
  · rintro (⟨on, chosen⟩ | ⟨on, chosen⟩ | ⟨on, chosen⟩)
    · exact ⟨.captureOn, (mem_outputEdges _ _ _).mpr ⟨capture, on⟩, chosen⟩
    · exact ⟨.recorderOn, (mem_outputEdges _ _ _).mpr ⟨recorder, on⟩, chosen⟩
    · exact ⟨.heaterOn, (mem_outputEdges _ _ _).mpr ⟨heater, on⟩, chosen⟩

/-- The blanking window at the end of a start from dark outputs (08 R153). -/
theorem endStart_blanking {before x : State} (dark : before.rails.dark) (closed : x.meas.blanking = .idle) :
    (x.endStart before).meas.blanking =
      (if ((x.endStart before).rails.capture = true ∧ .captureOn ∈ x.settings.blankEdges) ∨
          ((x.endStart before).rails.recorder = true ∧ .recorderOn ∈ x.settings.blankEdges) ∨
          ((x.endStart before).rails.heater = true ∧ .heaterOn ∈ x.settings.blankEdges)
        then Timer.start x.settings.blankLength else .idle) := by
  unfold State.endStart
  rw [arbitrate_meas, arbitrate_rails]
  obtain ⟨y, y_eq⟩ : ∃ y, y = (x.present.refreshDemand.driveCapture .protection).sessionAfter := ⟨_, rfl⟩
  have settings : y.settings = x.settings := by rw [y_eq]; simp
  have meas : y.meas = x.meas := by rw [y_eq]; simp
  have settle : State.settle .protection before x.present = State.concludeLoads before y := by rw [y_eq]; rfl
  obtain ⟨selected, unselected⟩ := concludeLoads_blanking before (s := y) (x := y) rfl rfl rfl rfl
  rw [settle, ← settings]
  split
  case isTrue some =>
    dsimp only
    rw [(selected ((selected_of_dark dark _ _).mpr some)).1, arbitrate_meas, spoil_meas, openBlanking_eq, meas, closed]
    dsimp only
    split
    case isTrue zero => rw [zero]; rfl
    case isFalse => rfl
  case isFalse no =>
    have absent : ∀ k ∈ outputEdges before.rails (State.concludeLoads before y).rails, k ∉ y.settings.blankEdges :=
      fun k edge chosen => no ((selected_of_dark dark _ _).mp ⟨k, edge, chosen⟩)
    dsimp only
    rw [(unselected absent).1, meas, closed]

/-- No wake begins in a rest span, or while a batch takes a record. -/
theorem evaluateWake_rests {s : State} (empty : s.queue.records = [])
    (rests : s.session.restTimer ≠ .idle ∨ (∀ r, s.tierRow = some r → 1 ≤ r.batch)) : s.evaluateWake = s := by
  rw [evaluateWake_eq]
  refine if_neg fun ⟨_, _, demand, gates⟩ => ?_
  obtain rest | batch := rests
  · obtain ⟨-, idle, -⟩ := (gatesOpen_iff s).mp gates
    exact rest idle
  · have zero : s.queue.number .held = 0 := by rw [number_eq_length, empty]; rfl
    obtain ⟨r, row, full⟩ | ⟨r, age, -, held, -⟩ | ⟨-, some⟩ := (wakeDemand_iff s).mp demand
    · have one := batch r row
      omega
    · have oldest : s.queue.oldest .held = none := oldest_eq_none (by rw [empty]; nofun)
      rw [State.heldAge, oldest] at held
      cases held
    · omega

theorem returned_cycleHold {s : State} {r : Rails} (rails : s.rails = { Rails.cold with
    periodDuty := r.periodDuty, moduleLatch := r.moduleLatch, band := r.band }) :
    s.returned.present.rails.cycleHold = false := by
  have hold : s.returned.rails.cycleHold = false := congrArg Rails.cycleHold rails
  rw [present_rails, hold]
  rfl

/-- At a return nothing but a warm-up demand asks for the capture module (07 R127). -/
theorem returned_demand {s : State} {q : ShotQueue} {r : Rails} (slot : s.sched.slot = none)
    (queue : s.queue = { q with
      records := [], module := .unpowered, bootTimer := .idle, deadline := .idle
      deliveryTimer := .idle, relay := .idle, relayLimit := .idle })
    (rails : s.rails = { Rails.cold with periodDuty := r.periodDuty, moduleLatch := r.moduleLatch, band := r.band }) :
    s.returned.present.refreshDemand.rails.demand = true ↔ warmUpFor s.settings.warmUp s.nextShotIn = true := by
  have cold : s.rails.demand = false := congrArg Rails.demand rails
  have demand : s.returned.present.refreshDemand.rails.demand =
    (s.returned.present.starting || (s.rails.demand && s.returned.present.keepWarm)) := rfl
  rw [demand, cold, Bool.false_and, Bool.or_false, starting_iff]
  refine ⟨?_, .inl⟩
  rintro (warm | pending | records | relay)
  · exact warm
  · exact absurd slot pending
  · exact absurd (congrArg ShotQueue.records queue) records
  · cases (congrArg ShotQueue.relay queue).symm.trans relay

/-- Settles O23: the return is the end of a start, read block by block. -/
theorem powerBadReturnKeepsTheSchedule : Obligations.PowerBadReturnKeepsTheSchedule := by
  intro s held low main
  obtain ⟨slot, cold⟩ := main
  obtain ⟨queue, session, rails, meas, -⟩ := cold (by rw [held]; decide)
  have slot := slot held
  have start : AtStart s.returned :=
    atStart_startMain rfl (congrArg ShotQueue.records queue) (congrArg ShotQueue.module queue)
      (congrArg Session.state session) (congrArg Rails.capture rails) (congrArg Measurement.converting meas)
  have dark : s.returning.rails.dark :=
    ⟨congrArg Rails.capture rails, congrArg Rails.recorder rails, congrArg Rails.heater rails⟩
  refine ⟨s.returned.endStart s.returning, congrArg Host.Outcome.next (supokSeen_high held low), ?_⟩
  obtain ⟨time, ramp, retention, settings, flags, inputs, pins⟩ := endStart_frame s.returning s.returned
  have sched := endStart_sched s.returning start
  have store := endStart_store s.returning start
  obtain ⟨records, failures, faultCode⟩ := endStart_queue s.returning start
  obtain ⟨asked, askedT, -⟩ := endStart_asked s.returning start
  have m := endStart_meas s.returning s.returned
  have r := endStart_rails s.returning s.returned
  obtain ⟨booted, stays⟩ := endStart_module s.returning start
  refine ⟨time, sched, ramp, retention, store, records, failures, faultCode, settings, flags, inputs, pins,
    endStart_restTimer s.returning start, (congrArg Rails.heaterPeriod r :), (congrArg Rails.periodDuty r :),
    (congrArg Rails.moduleLatch r :), (congrArg Rails.band r :), ?hold, (congrArg Rails.timeToNext r :), (congrArg Rails.warmUp r :),
    (congrArg Measurement.measurePeriod m :), (congrArg Measurement.tier m :), (congrArg Measurement.lastBattery m :), asked, askedT,
    ?capture, booted, stays, ?heater, ?recorder, ?session, ?sag, ?blanking⟩
  case hold => exact (congrArg Rails.cycleHold r).trans (returned_cycleHold rails)
  case capture =>
    rw [endStart_capture, captureLevel_iff, returned_demand slot queue rails]
    have forbids : s.returned.present.refreshDemand.bandForbids = s.bandForbids := bandForbids_congr rfl rfl
    have hold : s.returned.present.refreshDemand.rails.cycleHold = false := returned_cycleHold rails
    rw [forbids, hold]
    exact ⟨fun ⟨_, latch, free, _, mode⟩ => ⟨latch, free, mode⟩, fun ⟨latch, free, mode⟩ => ⟨rfl, latch, free, rfl, mode⟩⟩
  case heater =>
    have unordered : (s.returned.endStart s.returning).queue.has .ordered = false := by
      rw [Bool.eq_false_iff, ne_eq, has_iff, records]
      simp
    have bans : (s.returned.endStart s.returning).tierBansHeat = s.tierBansHeat :=
      tierBansHeat_congr (congrArg Measurement.tier m :) (congrArg (fun st => st.tier.active) store :)
    have noSag : (s.returned.endStart s.returning).meas.sagLatch = false :=
      (congrArg Measurement.sagLatch m).trans (congrArg Measurement.sagLatch meas)
    have phase : (s.returned.endStart s.returning).rails.phaseOn = decide (0 < s.bandDuty) := congrArg Rails.phaseOn r
    have duty : (s.returned.endStart s.returning).rails.periodDuty = s.bandDuty := congrArg Rails.periodDuty r
    rw [endStart_heater, heaterLevel_iff, unordered, bans, noSag, phase, duty, time, settings, decide_eq_true_iff]
    exact ⟨fun ⟨_, _, _, free, mode⟩ => ⟨free, mode.imp_right fun ⟨auto, on, _⟩ => ⟨auto, on⟩⟩,
      fun ⟨free, mode⟩ => ⟨rfl, rfl, rfl, free, mode.imp_right fun ⟨auto, on⟩ => ⟨auto, on, on⟩⟩⟩
  case recorder => exact (endStart_recorder _ _).trans (and_iff_right rfl)
  case session =>
    intro rests
    rw [endStart_session s.returning start, evaluateWake_rests]
    case empty =>
      rw [driveCapture_records, if_neg (noOff_of_start start)]
      exact start.records
    case rests =>
      refine rests.imp (fun span => ?_) (fun batch row found => batch row ?_)
      · rw [driveCapture_session]
        exact fun idle => span (timer_startSeconds_idle.mp idle)
      · rw [← found]
        exact tierRow_congr (by rw [driveCapture_meas]; rfl) (by rw [driveCapture_store]; rfl)
    rw [driveCapture_session]
    have off : s.returned.present.refreshDemand.session =
      { s.session with restTimer := Timer.startSeconds s.settings.restSpan } := rfl
    rw [off, session]
    rfl
  case sag => exact (congrArg Measurement.sagLatch m).trans (congrArg Measurement.sagLatch meas)
  case blanking => exact endStart_blanking dark (congrArg Measurement.blanking meas)

end Sys2Proof.Machine
end

section
/-! PROOF. Inputs (02 R27, 04 R71, 06 R108, 08 R156, R157): TRIG, SERVICE, STROBE and the comparator. -/

namespace Sys2Proof.Machine

/-! ### TRIG and SERVICE -/

theorem raisesEvent_iff (s : State) : s.raisesEvent = true ↔
    s.settings.triggerEnable = true ∧ s.sched.state = .running ∧ (∃ w, s.currentWindow = some w ∧ w.events = true) ∧
      s.sched.refractory = .idle ∧ s.time.domain ≠ .reset := by
  simp [State.raisesEvent, and_assoc, Option.any_eq_true]

theorem presentsSince_iff (before s : State) : State.presentsSince before s = true ↔
    s.sched.slot.isSome ≠ before.sched.slot.isSome ∨ s.queue.records.length ≠ before.queue.records.length ∨
      s.queue.relay ≠ before.queue.relay := by
  simp [State.presentsSince, or_assoc]

/-- A due shot leaves the relay alone. -/
theorem takeDueShot_relay (s : State) (kind : PendingKind) (suspended : Bool) :
    (s.takeDueShot kind suspended).queue.relay = s.queue.relay := by
  have issued : ∀ specs, (s.issueOrSkip specs).queue.relay = s.queue.relay := fun specs => by
    unfold State.issueOrSkip
    split
    · unfold State.issue
      dsimp only
      split <;> rfl
    · rfl
  cases suspended with
  | true => rfl
  | false =>
    by_cases run : s.time.domain = .run
    · rw [takeDueShot_run run]
      cases free : s.protectedNow with
      | true => rw [handleShot_protected free]; rfl
      | false =>
        by_cases ready : s.queue.module = .ready
        · rw [handleShot_ready free ready]
          exact issued _
        · rw [handleShot_notReady free ready]
          split <;> rfl
    · rw [takeDueShot_held run]
      rfl

theorem serviceWakes_iff (s : State) : s.serviceWakes = true ↔
    s.time.domain = .run ∧ s.session.state = .off ∧ s.settings.serviceEnable = true ∧ s.pins.supok = true := by
  simp [State.serviceWakes, and_assoc]

theorem trigActive_eq {s : State} (high : s.pins.trig = true) : exec .trigActive s = .next s.trigActive :=
  congrArg Host.Outcome.next (if_pos high)

section Raised
variable {s : State} (raised : (s.seeTrig false).raisesEvent = true)
include raised

theorem trigActive_run (run : s.time.domain = .run) : s.trigActive = State.settleIfPresented .protection s
    ((s.seeTrig false).takeDueShot .event (s.seeTrig false).suspended).startRefractory := by
  unfold State.trigActive
  dsimp only
  rw [if_pos raised, run]

theorem trigActive_powerBad (bad : s.time.domain = .powerBad) :
    s.trigActive = ((s.seeTrig false).takeDueShot .event (s.seeTrig false).suspended).startRefractory := by
  unfold State.trigActive
  dsimp only
  rw [if_pos raised, bad]

end Raised

theorem serviceActive_eq {s : State} (high : s.pins.service = true) : exec .serviceActive s = .next s.serviceActive :=
  congrArg Host.Outcome.next (if_pos high)

/-- Settles O25, by whether the input's condition holds and, for TRIG, by the supply-domain state. -/
theorem inputsRaiseShotsAndWakes : Obligations.InputsRaiseShotsAndWakes := by
  refine ⟨fun s high => ?_, fun s high => ?_⟩
  · intro c raises h x presents
    have x_eq : h.startRefractory = x := by
      have settings : h.settings = s.settings := takeDueShot_settings c .event c.suspended
      exact congrArg (fun st : Settings => { h with
        sched := { h.sched with refractory := Timer.startSeconds st.refractory } }) settings
    have raises_iff : (s.seeTrig false).raisesEvent = true ↔ raises := raisesEvent_iff (s.seeTrig false)
    have relay : x.queue.relay = s.queue.relay := takeDueShot_relay c .event c.suspended
    have presents_iff : State.presentsSince s x = true ↔ presents := by
      rw [presentsSince_iff]
      simp only [relay, ne_eq, not_true_eq_false, or_false]
      exact Iff.rfl
    refine ⟨fun no => ?_, fun yes bad => ?_, fun yes run some => ?_, fun yes run same => ?_⟩
    · rw [trigActive_eq high]
      exact congrArg Host.Outcome.next (if_neg fun yes => no (raises_iff.mp yes))
    · rw [trigActive_eq high, trigActive_powerBad (raises_iff.mpr yes) bad]
      exact congrArg Host.Outcome.next x_eq
    · rw [trigActive_eq high, trigActive_run (raises_iff.mpr yes) run]
      refine congrArg Host.Outcome.next ((congrArg _ x_eq).trans ?_)
      exact if_pos (presents_iff.mpr some)
    · rw [trigActive_eq high, trigActive_run (raises_iff.mpr yes) run]
      refine congrArg Host.Outcome.next ((congrArg _ x_eq).trans ?_)
      exact if_neg fun some => same (presents_iff.mp some)
  · intro c wakes
    have wakes_iff : (s.seeService false).serviceWakes = true ↔ wakes := serviceWakes_iff (s.seeService false)
    rw [serviceActive_eq high]
    exact ⟨fun no => congrArg Host.Outcome.next (if_neg fun yes => no (wakes_iff.mp yes)),
      fun yes => congrArg Host.Outcome.next (if_pos (wakes_iff.mpr yes))⟩

/-! ### STROBE -/

theorem stampFirst_split (now : Stamp) {pre post : List ShotRecord} {r : ShotRecord}
    (here : r.state = .ordered ∧ r.strobe = none) (before : ∀ q ∈ pre, ¬ (q.state = .ordered ∧ q.strobe = none)) :
    stampFirst now (pre ++ r :: post) = pre ++ { r with strobe := some now } :: post := by
  induction pre with
  | nil => exact if_pos here
  | cons q pre ih =>
    have later := ih fun q' mem => before q' (List.mem_cons_of_mem _ mem)
    exact (if_neg (before q List.mem_cons_self)).trans (congrArg (q :: ·) later)

/-- Settles O26: `stampFirst` passes the records before the first that can take a stamp. -/
theorem strobeStampsTheOldestUnstamped : Obligations.StrobeStampsTheOldestUnstamped := by
  intro s run
  have strobe : exec .strobeRise s = .next s.strobeRise := congrArg Host.Outcome.next (if_pos run)
  rw [strobe]
  refine ⟨fun pre post r records ordered unstamped before => ?_, fun absent => ?_⟩
  · have some : s.queue.records.any (fun r => decide (r.state = .ordered ∧ r.strobe = none)) = true :=
      List.any_eq_true.mpr ⟨r, by rw [records]; simp, by simp [ordered, unstamped]⟩
    rw [State.strobeRise, if_pos some, State.stampStrobe, records, stampFirst_split _ ⟨ordered, unstamped⟩ before]
    rfl
  · have no : ¬ s.queue.records.any (fun r => decide (r.state = .ordered ∧ r.strobe = none)) = true := fun any => by
      obtain ⟨q, mem, free⟩ := List.any_eq_true.mp any
      exact absent q mem (of_decide_eq_true free)
    rw [State.strobeRise, if_neg no]
    rfl

/-! ### The comparator -/

theorem tripPossible_iff (s : State) : s.tripPossible = true ↔
    s.meas.tripped = true ∧ s.settings.sagEnable = true ∧ s.meas.blanking = .idle := by
  simp [State.tripPossible, State.windowClosed, and_assoc]

/-- A request for BATTERY stands or is being converted. -/
def BatteryAsked (m : Measurement) : Prop := m.requests.battery = true ∨ m.converting = some .battery

theorem batteryAsked_arbitrate {s : State} (h : BatteryAsked s.meas) : BatteryAsked s.arbitrate.meas := by
  unfold State.arbitrate
  split
  · rename_i c _ idle _ first
    obtain battery | busy := h
    · cases first.symm.trans (first_battery battery)
      exact .inr rfl
    · cases idle.symm.trans busy
  · exact h

theorem batteryAsked_spoil {s : State} (h : BatteryAsked s.meas) : BatteryAsked s.spoil.meas := by
  cases converting : s.meas.converting with
  | none =>
    rw [spoil_none converting]
    exact h
  | some c =>
    rw [spoil_some converting]
    obtain battery | busy := h
    · exact .inl (by cases c <;> simp [Requests.put, battery])
    · cases converting.symm.trans busy
      exact .inl rfl

theorem batteryAsked_concludeLoads (before : State) {s : State} (h : BatteryAsked s.meas) :
    BatteryAsked (State.concludeLoads before s).meas := by
  unfold State.concludeLoads State.reportEdges
  split
  · refine batteryAsked_arbitrate (batteryAsked_spoil ?_)
    rw [openBlanking_meas]
    exact h
  · exact h

theorem sampleComparator_eq {s : State} (run : s.time.domain = .run) (v : Nat) : s.sampleComparator v =
    if (!s.meas.tripped && (s.seeComparator (comparatorLevel s.settings.sagThreshold s.meas.tripped v)).tripPossible) = true
    then (State.concludeLoads s
      (s.seeComparator (comparatorLevel s.settings.sagThreshold s.meas.tripped v)).takeTrip).arbitrate
    else s.seeComparator (comparatorLevel s.settings.sagThreshold s.meas.tripped v) := if_pos run

/-- Settles O27, by whether the comparator trips; the latch holds the heater at the end of the event. -/
theorem comparatorTripsAndReleases : Obligations.ComparatorTripsAndReleases := by
  intro c v s which run level x trips
  have sampled : exec c s = .next (s.sampleComparator v) := by
    obtain rfl | rfl := which <;> rfl
  have trips_iff : (!s.meas.tripped && (s.seeComparator level).tripPossible) = true ↔ trips := by
    rw [Bool.and_eq_true, Bool.not_eq_true', tripPossible_iff]
    exact Iff.rfl
  rw [sampled]
  refine ⟨fun no => congrArg Host.Outcome.next ((sampleComparator_eq run v).trans (if_neg fun yes => no (trips_iff.mp yes))),
    fun yes => ?_⟩
  have tripped : s.sampleComparator v = (State.concludeLoads s (s.seeComparator level).takeTrip).arbitrate :=
    (sampleComparator_eq run v).trans (if_pos (trips_iff.mpr yes))
  refine ⟨congrArg Host.Outcome.next tripped, _, congrArg Host.Outcome.next tripped, ?_, ?_, ?_⟩
  · rw [arbitrate_meas]
    exact concludeLoads_sagLatch s _
  · rw [arbitrate_rails, concludeLoads_rails]
    exact Bool.eq_false_iff.mpr fun on => nomatch ((heaterLevel_iff _).mp on).2.2.1
  · exact batteryAsked_arbitrate (batteryAsked_concludeLoads s (.inl rfl))

end Sys2Proof.Machine
end

section
/-! PROOF. The Shot Queue (04 R64 to R67): HELLO and module failures. -/

namespace Sys2Proof.Machine

/-! ### HELLO (04 R65) -/

theorem serveHello_booting {x : State} (booting : x.queue.module = .booting) :
    x.serveHello = State.settleIfPresented .protection x x.bootReady := by
  rw [State.serveHello, booting]

theorem serveHello_ready {x : State} (ready : x.queue.module = .ready) :
    x.serveHello = State.settleIfPresented .protection x x.flush.raiseFailures.flagModuleRestart := by
  rw [State.serveHello, ready]

theorem settleIfPresented_settles {before s : State} (presents : State.presentsSince before s = true) (why : SkipReason) :
    State.settleIfPresented why before s = State.settle why before s := if_pos presents

theorem settleIfPresented_concludes {before s : State} (quiet : ¬ State.presentsSince before s = true) (why : SkipReason) :
    State.settleIfPresented why before s = State.conclude why before s := if_neg quiet

/-- A READY module with no shot pending. -/
theorem bootReady_empty {x : State} (empty : x.sched.slot = none) :
    x.bootReady = { x with queue := { x.queue with module := .ready, bootTimer := .idle } } := by
  unfold State.bootReady State.issuePending
  dsimp only
  rw [empty]

theorem bootReady_pending {x : State} {p : PendingShot} (pending : x.sched.slot = some p) :
    x.bootReady = State.issueOrSkip (x.specsOf p) { x with
      queue := { x.queue with module := .ready, bootTimer := .idle }, sched := { x.sched with slot := none } } := by
  unfold State.bootReady State.issuePending
  dsimp only
  rw [pending]
  rfl

theorem issueOrSkip_slot (specs : List ShotSpec) (s : State) : (s.issueOrSkip specs).sched.slot = s.sched.slot := by
  unfold State.issueOrSkip
  split <;> rfl

/-- Settles O28, by the module's state and by what the slot held. -/
theorem helloByModuleState : Obligations.HelloByModuleState := by
  intro s x h up n restarted
  rw [exec_noticed rfl h]
  refine ⟨fun booting empty => ?_, fun p booting pending => ?_, fun ready => ?_⟩
  · refine congrArg Host.Outcome.next ((serveHello_booting booting).trans ?_)
    rw [bootReady_empty empty]
    refine settleIfPresented_concludes (fun presents => ?_) .protection
    simp [presentsSince_iff] at presents
  · intro freed specs
    refine congrArg Host.Outcome.next ((serveHello_booting booting).trans ?_)
    have emptied : x.bootReady.sched.slot = none := by
      rw [bootReady_pending pending, issueOrSkip_slot]
    rw [settleIfPresented_settles ((presentsSince_iff _ _).mpr (.inl (by simp [emptied, pending]))), bootReady_pending pending]
    rfl
  · refine congrArg Host.Outcome.next ((serveHello_ready ready).trans ?_)
    have presents : State.presentsSince x x.flush.raiseFailures.flagModuleRestart = true ↔
        ¬ (x.queue.records = [] ∧ x.queue.relay = .idle) := by
      have length : x.flush.raiseFailures.flagModuleRestart.queue.records.length = 0 := rfl
      have relay : x.flush.raiseFailures.flagModuleRestart.queue.relay = .idle := rfl
      have slot : x.flush.raiseFailures.flagModuleRestart.sched.slot = x.sched.slot := rfl
      rw [presentsSince_iff, length, relay, slot, ← List.length_eq_zero_iff]
      cases x.queue.relay <;> simp [eq_comm]
    split
    case isTrue quiet => exact settleIfPresented_concludes (fun yes => presents.mp yes quiet) .protection
    case isFalse some => exact settleIfPresented_settles (presents.mpr some) .protection

/-! ### Module failures (04 R64, R66, R67) -/

theorem serveFault_powered {x : State} (powered : x.queue.module ≠ .unpowered) (code : Byte) :
    x.serveFault code = State.conclude .module x
      (State.raiseFailures { x with queue := { x.queue with faultCode := some code } }).requestCycle := by
  unfold State.serveFault
  cases module : x.queue.module with
  | unpowered => exact absurd module powered
  | booting => rfl
  | ready => rfl

/-- Settles O29: both are the same failure, and the cycle hold takes the rail off. -/
theorem moduleFailureCyclesTheRail : Obligations.ModuleFailureCyclesTheRail := by
  unfold Obligations.ModuleFailureCyclesTheRail
  intro failing
  refine ⟨fun code s x h powered => ?_, fun s run booting due => ?_, fun before x => ?_⟩
  · rw [exec_noticed rfl h]
    exact congrArg Host.Outcome.next (serveFault_powered powered code)
  · exact congrArg Host.Outcome.next (if_pos ⟨run, due, booting⟩)
  · intro t
    have level : (failing x).captureLevel = false := Bool.eq_false_iff.mpr fun on =>
      nomatch ((captureLevel_iff _).mp on).2.2.2.1
    refine ⟨(conclude_capture .module before (failing x)).trans level, (conclude_chain .module before (failing x)).2, fun on => ?_⟩
    have queue : t.queue = _ := conclude_queue_off .module before (s := failing x) on level
    exact ⟨congrArg ShotQueue.records queue, congrArg ShotQueue.module queue,
      conclude_slot_off .module before (s := failing x) on level⟩

end Sys2Proof.Machine
end

section
/-! PROOF. The Shot Queue (04 R69, R74, R75, R78 to R83): FRAME, stray notices, deliveries and module relays. -/

namespace Sys2Proof.Machine

/-! ### Records by tag -/

theorem tag_of_withTag {q : ShotQueue} {tag : Byte} {r : ShotRecord} (found : q.withTag tag = some r) : r.tag = tag := by
  simpa using List.find?_some found

theorem remove_records (q : ShotQueue) (tag : Byte) :
    q.remove tag = { q with records := q.records.filter (fun r => decide (r.tag ≠ tag)) } := by
  simp only [ShotQueue.remove, decide_not, ne_eq]

/-- A record that is removed takes with it what was stored in it. -/
theorem remove_alter (q : ShotQueue) {tag : Byte} {f : ShotRecord → ShotRecord} (keeps : ∀ r, (f r).tag = r.tag) :
    ((q.alter tag f).remove tag).records = q.records.filter (fun r => decide (r.tag ≠ tag)) := by
  rw [remove_records]
  simp only [ShotQueue.alter, List.filter_map]
  have tags : (fun r : ShotRecord => decide (r.tag ≠ tag)) ∘ (fun r => if r.tag = tag then f r else r) =
      fun r => decide (r.tag ≠ tag) := by
    funext r
    by_cases here : r.tag = tag <;> simp [here, keeps]
  rw [tags]
  refine (List.map_congr_left fun r mem => ?_).trans (List.map_id _)
  exact if_neg (by simpa using (List.mem_filter.mp mem).2)

theorem alter_alter (q : ShotQueue) {tag : Byte} {f g : ShotRecord → ShotRecord} (keeps : ∀ r, (f r).tag = r.tag) :
    ((q.alter tag f).alter tag g).records = q.records.map (fun r => if r.tag = tag then g (f r) else r) := by
  simp only [ShotQueue.alter, List.map_map]
  refine List.map_congr_left fun r _ => ?_
  by_cases here : r.tag = tag <;> simp [here, keeps]

/-! ### FRAME (04 R74) -/

/-- The ramp update of a report moves the ramp and the count of stale reports. -/
theorem rampUpdate_eq (s : State) (r : ShotRecord) (f : Facts) : s.rampUpdate r f = { s with
    ramp := (s.rampUpdate r f).ramp, counters := (s.rampUpdate r f).counters } := by
  unfold State.rampUpdate
  split
  · rfl
  · split
    · rfl
    · split <;> rfl

/-- The ramp update reads no record of the queue. -/
theorem rampUpdate_queue (s : State) (q : ShotQueue) (r : ShotRecord) (f : Facts) :
    State.rampUpdate { s with queue := q } r f = { s.rampUpdate r f with queue := q } := by
  unfold State.rampUpdate
  dsimp only
  split
  · rfl
  · split
    · rfl
    · split <;> rfl

/-- What stage 2 leaves: the ramp updated by a CENTER. -/
def State.rampedBy (r : ShotRecord) (f : Facts) (x : State) : State := if r.role = .center then x.rampUpdate r f else x

theorem rampedBy_eq (r : ShotRecord) (f : Facts) (x : State) : x.rampedBy r f = { x with
    ramp := (x.rampedBy r f).ramp, counters := (x.rampedBy r f).counters } := by
  unfold State.rampedBy
  split
  · exact rampUpdate_eq x r f
  · rfl

/-- Stages 1 and 2 of a FRAME: the facts are stored, and the ramp updated by a CENTER. -/
def State.framed (r : ShotRecord) (f : Facts) (x : State) : State := { x with
  ramp := (x.rampedBy r f).ramp, counters := (x.rampedBy r f).counters
  queue := x.queue.alter r.tag (fun q => { q with facts := some f }) }

theorem framed_eq (r : ShotRecord) (f : Facts) (x : State) :
    (if r.role = .center
      then State.rampUpdate { x with queue := x.queue.alter r.tag (fun q => { q with facts := some f }) } r f
      else { x with queue := x.queue.alter r.tag (fun q => { q with facts := some f }) }) = x.framed r f := by
  rw [rampUpdate_queue]
  unfold State.framed
  have ramped := rampedBy_eq r f x
  unfold State.rampedBy at ramped ⊢
  split
  case isTrue center =>
    rw [if_pos center] at ramped
    exact congrArg (fun y : State => { y with queue := x.queue.alter r.tag (fun q => { q with facts := some f }) }) ramped
  case isFalse => rfl

/-- The watch passes on when the watched record has brought its FRAME (04 R72). -/
def State.watchPasses (r : ShotRecord) (x : State) : Bool :=
  decide ((x.queue.oldest .ordered).map (·.tag) = some r.tag)

/-- Stages 4 and 5 of a FRAME: the failure count is cleared and the watch passed on. -/
def State.passWatch (passes : Bool) (allowance : Nat) (j : State) : State :=
  let q := { j.queue with failures := 0 }
  { j with queue := if passes = true then q.watch allowance else q }

theorem takeFrame_eq (r : ShotRecord) (f : Facts) (x : State) : x.takeFrame r f =
    State.passWatch (x.watchPasses r) x.settings.exposureAllowance ((x.framed r f).judge r f.mean) := by
  unfold State.takeFrame
  dsimp only
  rw [framed_eq]
  rfl

theorem judge_keeps {x : State} {r : ShotRecord} {mean : Byte} (keeps : x.verdictKeeps r.role mean = true) :
    x.judge r mean = x.keepFrame r mean := if_pos keeps

theorem judge_drops {x : State} {r : ShotRecord} {mean : Byte} (drops : x.verdictKeeps r.role mean = false) :
    x.judge r mean = x.dropFrame r mean := if_neg (by rw [drops]; decide)

theorem watch_deadline (q : ShotQueue) (allowance : Nat) : (q.watch allowance).deadline =
    match q.records.find? (fun q => decide (q.state = .ordered)) with
    | some q => Timer.start ((q.exposure.shutter + 999) / 1000 + allowance)
    | none => .idle := by
  unfold ShotQueue.watch ShotQueue.oldest
  dsimp only
  cases q.records.find? (fun r => decide (r.state = .ordered)) <;> rfl

theorem serveFrame_ordered {x : State} {tag : Byte} {r : ShotRecord} (ready : x.queue.module = .ready)
    (found : x.queue.withTag tag = some r) (ordered : r.state = .ordered) (f : Facts) :
    x.serveFrame tag f = State.settle .protection x (x.takeFrame r f) := by
  unfold State.serveFrame
  simp only [ready, found, ordered]

theorem passWatch_queue (passes : Bool) (allowance : Nat) (j : State) : (j.passWatch passes allowance).queue =
    { j.queue with
      records := (j.passWatch passes allowance).queue.records, failures := 0
      deadline := (j.passWatch passes allowance).queue.deadline } := by
  unfold State.passWatch ShotQueue.watch
  cases passes <;> rfl

theorem passWatch_records (passes : Bool) (allowance : Nat) (j : State) :
    (j.passWatch passes allowance).queue.records = j.queue.records := by
  cases passes <;> rfl

theorem passWatch_deadline (passes : Bool) (allowance : Nat) (j : State) :
    (passes = true → (j.passWatch passes allowance).queue.deadline =
      match (j.passWatch passes allowance).queue.records.find? (fun q => decide (q.state = .ordered)) with
      | some q => Timer.start ((q.exposure.shutter + 999) / 1000 + allowance)
      | none => .idle) ∧
    (passes = false → (j.passWatch passes allowance).queue.deadline = j.queue.deadline) := by
  rw [passWatch_records]
  exact ⟨by rintro rfl; exact watch_deadline _ _, by rintro rfl; rfl⟩

/-- Settles O31: stage 3 keeps the record or drops it, and stages 4 and 5 follow in either case. -/
theorem frameIsJudged : Obligations.FrameIsJudged := by
  intro tag shutter gain mean hi lo s x r h ready found ordered f ramped
  have tagged : r.tag = tag := tag_of_withTag found
  subst tagged
  have verdict : (x.framed r f).verdictKeeps r.role mean = x.verdictKeeps r.role mean := rfl
  have keepsTag : ∀ q : ShotRecord, ({ q with facts := some f } : ShotRecord).tag = q.tag := fun _ => rfl
  refine ⟨x.takeFrame r f, (exec_noticed rfl h).trans (congrArg Host.Outcome.next (serveFrame_ordered ready found ordered f)),
    ?_⟩
  rw [takeFrame_eq]
  cases kept : x.verdictKeeps r.role mean with
  | true =>
    rw [judge_keeps (verdict.trans kept)]
    obtain ⟨passed, stayed⟩ := passWatch_deadline (x.watchPasses r) x.settings.exposureAllowance ((x.framed r f).keepFrame r mean)
    have queue := passWatch_queue (x.watchPasses r) x.settings.exposureAllowance ((x.framed r f).keepFrame r mean)
    refine ⟨congrArg ShotQueue.failures queue, rfl, rfl, fun _ => ⟨?_, rfl, rfl, rfl⟩, nofun,
      fun passes => passed (decide_eq_true passes), fun stays => stayed (decide_eq_false stays), ?_, ?_, rfl, rfl, rfl, rfl, rfl,
      rfl, rfl, rfl, rfl, rfl, rfl, rfl⟩
    · rw [passWatch_records]
      exact alter_alter x.queue keepsTag
    · exact queue
    · exact (congrArg ShotQueue.module queue).trans ready
  | false =>
    rw [judge_drops (verdict.trans kept)]
    obtain ⟨passed, stayed⟩ := passWatch_deadline (x.watchPasses r) x.settings.exposureAllowance ((x.framed r f).dropFrame r mean)
    have queue := passWatch_queue (x.watchPasses r) x.settings.exposureAllowance ((x.framed r f).dropFrame r mean)
    refine ⟨congrArg ShotQueue.failures queue, rfl, rfl, nofun, fun _ => ⟨?_, rfl, rfl, rfl⟩,
      fun passes => passed (decide_eq_true passes), fun stays => stayed (decide_eq_false stays), ?_, ?_, rfl, rfl, rfl, rfl, rfl,
      rfl, rfl, rfl, rfl, rfl, rfl, rfl⟩
    · rw [passWatch_records]
      exact remove_alter x.queue keepsTag
    · exact queue
    · exact (congrArg ShotQueue.module queue).trans ready

end Sys2Proof.Machine
end

section
/-! PROOF. The Shot Queue (04 R69, R75, R78 to R83): stray notices, deliveries and module relays. -/

namespace Sys2Proof.Machine

/-! ### Stray notices (04 R69) -/

/-- A module that is not up takes no notice but a HELLO and, while it boots, a FAULT. -/
theorem body_stray {c : Instr} {p : Packet} {x : State} (carries : packetOf c = some (.s, p))
    (down : x.queue.module = .unpowered ∨ x.queue.module = .booting ∧ c ≠ .hello ∧ ∀ code, c ≠ .fault code) :
    bodyOf c x = x.count .strayNotice := by
  obtain off | ⟨booting, noHello, noFault⟩ := down
  · cases c <;> cases carries
    case inl.hello.refl => exact (show State.serveHello x = _ by rw [State.serveHello, off])
    case inl.frame.refl => exact (show State.serveFrame _ _ x = _ by rw [State.serveFrame, off])
    case inl.delivered.refl => exact (show State.serveDelivered _ x = _ by rw [State.serveDelivered, off])
    case inl.undelivered.refl => exact (show State.serveUndelivered _ x = _ by rw [State.serveUndelivered, off])
    case inl.fault.refl => exact (show State.serveFault _ x = _ by rw [State.serveFault, off])
    case inl.moduleRelay.refl => exact (show State.serveModuleRelay _ x = _ by rw [State.serveModuleRelay, off])
  · cases c <;> cases carries
    case inr.hello.refl => exact absurd rfl noHello
    case inr.frame.refl => exact (show State.serveFrame _ _ x = _ by rw [State.serveFrame, booting])
    case inr.delivered.refl => exact (show State.serveDelivered _ x = _ by rw [State.serveDelivered, booting])
    case inr.undelivered.refl => exact (show State.serveUndelivered _ x = _ by rw [State.serveUndelivered, booting])
    case inr.fault.refl code => exact absurd rfl (noFault code)
    case inr.moduleRelay.refl => exact (show State.serveModuleRelay _ x = _ by rw [State.serveModuleRelay, booting])

section Ready
variable {x : State} {tag : Byte} {r : ShotRecord} (ready : x.queue.module = .ready)
include ready

theorem serveFrame_absent (absent : x.queue.withTag tag = none) (f : Facts) :
    x.serveFrame tag f = (x.count .strayFrame).sendS (dropPacket tag) := by
  simp only [State.serveFrame, ready, absent]

theorem serveFrame_late (found : x.queue.withTag tag = some r) (late : r.state ≠ .ordered) (f : Facts) :
    x.serveFrame tag f = x.count .strayFrame := by
  cases state : r.state with
  | ordered => exact absurd state late
  | _ => simp only [State.serveFrame, ready, found, state]

theorem serveDelivered_absent (absent : x.queue.withTag tag = none) : x.serveDelivered tag = x.count .strayDelivery := by
  simp only [State.serveDelivered, ready, absent]

theorem serveDelivered_early (found : x.queue.withTag tag = some r) (early : r.state = .ordered) :
    x.serveDelivered tag = x.count .strayDelivery := by
  simp only [State.serveDelivered, ready, found, early]

theorem serveUndelivered_absent (absent : x.queue.withTag tag = none) :
    x.serveUndelivered tag = x.count .strayDelivery := by
  simp only [State.serveUndelivered, ready, absent]

theorem serveUndelivered_idle (found : x.queue.withTag tag = some r) (idle : r.state ≠ .releasing) :
    x.serveUndelivered tag = x := by
  cases state : r.state with
  | releasing => exact absurd state idle
  | _ => simp only [State.serveUndelivered, ready, found, state]

end Ready

/-- Settles O32, by the module's state and by the record that the tag finds. -/
theorem strayNoticesAreCounted : Obligations.StrayNoticesAreCounted := by
  refine ⟨fun c p s x carries h down => ?_, fun tag sh g m hi lo s x h ready => ⟨fun absent => ?_, fun r found late => ?_⟩,
    fun tag s x h ready stray => ?_, fun tag s x h ready => ⟨fun absent => ?_, fun r found idle => ?_⟩⟩
  · rw [exec_noticed carries h, body_stray carries down]
    rfl
  · exact (exec_noticed rfl h).trans (congrArg Host.Outcome.next (serveFrame_absent ready absent _))
  · exact (exec_noticed rfl h).trans (congrArg Host.Outcome.next (serveFrame_late ready found late _))
  · obtain absent | ⟨r, found, early⟩ := stray
    · exact (exec_noticed rfl h).trans (congrArg Host.Outcome.next (serveDelivered_absent ready absent))
    · exact (exec_noticed rfl h).trans (congrArg Host.Outcome.next (serveDelivered_early ready found early))
  · exact (exec_noticed rfl h).trans (congrArg Host.Outcome.next (serveUndelivered_absent ready absent))
  · exact (exec_noticed rfl h).trans (congrArg Host.Outcome.next (serveUndelivered_idle ready found idle))

/-! ### Deliveries (04 R78, R79) -/

theorem serveDelivered_taken {x : State} {tag : Byte} {r : ShotRecord} (ready : x.queue.module = .ready)
    (found : x.queue.withTag tag = some r) (taken : r.state ≠ .ordered) :
    x.serveDelivered tag = State.settle .protection x { x with
      queue := { x.queue with
        records := x.queue.records.filter (fun q => decide (q.tag ≠ tag))
        deliveryTimer := if r.state = .releasing then .idle else x.queue.deliveryTimer }
      counters := x.counters.put .delivered (satInc x.counters.delivered) } := by
  unfold State.serveDelivered
  simp only [ready, found, remove_records]
  cases state : r.state with
  | ordered => exact absurd state taken
  | _ => rfl

theorem serveUndelivered_releasing {x : State} {tag : Byte} {r : ShotRecord} (ready : x.queue.module = .ready)
    (found : x.queue.withTag tag = some r) (releasing : r.state = .releasing) :
    x.serveUndelivered tag = State.settle .protection x (x.deliveryFailure r) := by
  simp only [State.serveUndelivered, ready, found, releasing]

/-- Settles O33: a delivery's end by the record's state, and the two delivery failures, which are one. -/
theorem deliveryEndsOrFails : Obligations.DeliveryEndsOrFails := by
  unfold Obligations.DeliveryEndsOrFails
  intro failed
  have failed_eq (r : ShotRecord) (x : State) : x.deliveryFailure r = failed r x := by
    unfold State.deliveryFailure
    rw [remove_records]
    rfl
  refine ⟨fun tag s x r h ready found taken => ?_, fun tag s x r h ready found releasing => ?_, fun s r run due oldest => ?_⟩
  · exact (exec_noticed rfl h).trans (congrArg Host.Outcome.next (serveDelivered_taken ready found taken))
  · rw [← failed_eq]
    exact (exec_noticed rfl h).trans (congrArg Host.Outcome.next (serveUndelivered_releasing ready found releasing))
  · rw [← failed_eq]
    refine congrArg Host.Outcome.next ((if_pos ⟨run, due⟩).trans ?_)
    rw [oldest]

/-! ### Module relays (04 R81, R83) -/

/-- Settles O34, by whether a relay is in progress. -/
theorem moduleRelayIsPassedOn : Obligations.ModuleRelayIsPassedOn := by
  unfold Obligations.ModuleRelayIsPassedOn
  intro ended
  refine ⟨fun payload s x h ready => ?_, fun s run progress due => congrArg Host.Outcome.next (if_pos ⟨run, due, progress⟩)⟩
  intro passed
  rw [exec_noticed rfl h]
  refine ⟨fun idle => congrArg Host.Outcome.next ?_, fun progress => congrArg Host.Outcome.next ?_⟩
  · show x.serveModuleRelay payload = passed
    simp only [State.serveModuleRelay, ready, idle]
    rfl
  · show x.serveModuleRelay payload = _
    simp only [State.serveModuleRelay, ready, progress]
    rfl

end Sys2Proof.Machine
end

section
/-! PROOF. Recorder sessions (06): READY, SLEEP, CLAIM, WAIVE, the session's timeouts and the requests outside a session. -/

namespace Sys2Proof.Machine

/-! ### READY (06 R110, R117, R118) -/

theorem exec_ready {s x : State} (h : Handed .p readyPacket s x) (free : x.readyCondition = true) :
    exec .ready s = .next x.serveReady :=
  exec_handed rfl h ((admits_handed h).symm.trans free)

theorem readyCondition_of_room {x : State} (room : x.roomP 6 = true) : x.readyCondition = true := by
  unfold State.readyCondition
  split
  · rfl
  · exact room

theorem statusThenOffer_of_candidate {w : State} {r : ShotRecord} (may : w.mayOffer = true)
    (oldest : w.queue.oldest .held = some r) :
    w.statusThenOffer = (w.beginOffer r).sendStatus.sendP (offerPacket r) := by
  rw [State.statusThenOffer, State.offerCandidate, if_pos may, oldest]

theorem statusThenOffer_none {w : State} (no : w.mayOffer = false ∨ w.queue.oldest .held = none) :
    w.statusThenOffer = w.sendStatus := by
  have absent : w.offerCandidate = none := by
    unfold State.offerCandidate
    obtain may | oldest := no
    · rw [may]; rfl
    · rw [oldest]; exact ite_self none
  rw [State.statusThenOffer, absent]

theorem serveReady_waking {x : State} (waking : x.session.state = .waking) : x.serveReady = x.readyInWaking := by
  rw [State.serveReady, waking]

theorem serveReady_inSession {x : State} (inside : x.session.state = .awake ∨ x.session.state = .closing) :
    x.serveReady = x.readyAgain := by
  unfold State.serveReady
  obtain state | state := inside <;> rw [state]

/-- Settles O35: in both cases READY is `statusThenOffer` of the state reached, by whether a record is offered. -/
theorem readyReportsThenOffers : Obligations.ReadyReportsThenOffers := by
  intro s x w h room reached
  have served : exec .ready s = .next w.statusThenOffer := by
    rw [exec_ready h (readyCondition_of_room room)]
    obtain ⟨waking, rfl⟩ | ⟨inside, rfl⟩ := reached
    · rw [serveReady_waking waking]
      rfl
    · rw [serveReady_inSession inside]
      rfl
  have kept : w.plink = x.plink ∧ w.settings = x.settings := by
    obtain ⟨-, rfl⟩ | ⟨-, rfl⟩ := reached <;> exact ⟨rfl, rfl⟩
  obtain ⟨plink, settings⟩ := kept
  refine ⟨fun r awake noOffer noRelease oldest => ?_, fun no => ?_⟩
  · rw [served, statusThenOffer_of_candidate ((mayOffer_iff w).mpr ⟨awake, noOffer, noRelease⟩) oldest, ← plink, ← settings]
    rfl
  · have blocked : w.mayOffer = false ∨ w.queue.oldest .held = none := by
      rw [Bool.eq_false_iff, ne_eq, mayOffer_iff]
      obtain notAwake | offered | releasing | nothing := no
      · exact .inl fun ⟨awake, _⟩ => notAwake awake
      · exact .inl fun ⟨_, free, _⟩ => nomatch offered.symm.trans free
      · exact .inl fun ⟨_, _, free⟩ => nomatch releasing.symm.trans free
      · exact .inr nothing
    rw [served, statusThenOffer_none blocked, ← plink]
    rfl

/-! ### SLEEP (06 R117, R119, R120) -/

theorem exec_sleep {s x : State} (h : Handed .p sleepPacket s x) : exec .sleep s = .next x.serveSleep :=
  exec_handed rfl h rfl

theorem serveSleep_outside {x : State} (outside : x.session.state = .off ∨ x.session.state = .waking) :
    x.serveSleep = x.count .outOfSession := by
  unfold State.serveSleep
  obtain state | state := outside <;> rw [state]

theorem serveSleep_closing {x : State} (closing : x.session.state = .closing) : x.serveSleep = x := by
  rw [State.serveSleep, closing]

theorem serveSleep_awake {x : State} (awake : x.session.state = .awake) : x.serveSleep = x.sleepInAwake := by
  rw [State.serveSleep, awake]

/-- What a session end leaves in the session, by what it reads. -/
theorem endSession_session_congr {a b : State} (time : a.time = b.time) (session : a.session = b.session)
    (records : a.queue.records = b.queue.records) (settings : a.settings = b.settings) (meas : a.meas = b.meas)
    (store : a.store = b.store) (pins : a.pins = b.pins) : a.endSession.session = b.endSession.session := by
  rw [endSession_eq, endSession_eq]
  refine evaluateWake_session_congr time ?_ records settings (congrArg Measurement.tier meas)
    (congrArg (fun st => st.abandon.tier.active) store) pins
  simp only [State.leaveSession, session, settings]

theorem conclude_outOfSession_value (why : SkipReason) (before s : State) : (State.conclude why before s).counters.outOfSession =
    (s.driveCapture why).sessionAfter.counters.outOfSession :=
  concludeLoads_value before _ (k := .outOfSession) (by decide)

section Closing
variable {s : State} (why : SkipReason) (before : State) (closing : s.session.state = .closing)
include closing

/-- The outputs' part of an end of event leaves a closing session's blocks alone, and loses the records at an off edge. -/
theorem driveCapture_closing : (s.driveCapture why).session.state = .closing := by rw [driveCapture_session, closing]

/-- A closing session stays while a record is RELEASING. -/
theorem conclude_closing_stays (releasing : (s.driveCapture why).queue.has .releasing = true) :
    let t := State.conclude why before s
    t.session = s.session ∧ t.plink = s.plink ∧ t.store = s.store ∧ t.counters.outOfSession = s.counters.outOfSession := by
  have stays : (s.driveCapture why).sessionAfter = s.driveCapture why := by
    rw [sessionAfter_closing (driveCapture_closing why closing), if_pos releasing]
  refine ⟨?_, ?_, ?_, ?_⟩
  · rw [conclude_session, stays, driveCapture_session]
  · rw [conclude_plink, stays, driveCapture_plink]
  · rw [State.conclude, concludeLoads_store, stays, driveCapture_store]
  · rw [conclude_outOfSession_value why before s, stays]
    exact driveCapture_value why s (k := .outOfSession) (by decide) (by cases why <;> decide)

/-- A closing session ends once no record is RELEASING. -/
theorem conclude_closing_ends (ended : (s.driveCapture why).queue.has .releasing = false) :
    let t := State.conclude why before s
    t.session = (s.driveCapture why).endSession.session ∧ t.plink = { s.plink with rx := [], tx := [] } ∧
      t.store = s.store.abandon ∧ t.counters.outOfSession = satAdd s.counters.outOfSession s.plink.rx.length := by
  have ends : (s.driveCapture why).sessionAfter = (s.driveCapture why).endSession := by
    rw [sessionAfter_closing (driveCapture_closing why closing), ended]
    rfl
  refine ⟨?_, ?_, ?_, ?_⟩
  · rw [conclude_session, ends]
  · rw [conclude_plink, ends, endSession_eq, evaluateWake_plink]
    have plink := driveCapture_plink s why
    exact congrArg (fun p : Port => ({ p with rx := [], tx := [] } : Port)) plink
  · rw [State.conclude, concludeLoads_store, ends, endSession_store, driveCapture_store]
  · rw [conclude_outOfSession_value why before s, ends, endSession_eq, evaluateWake_counters]
    have count : (s.driveCapture why).counters.outOfSession = s.counters.outOfSession :=
      driveCapture_value why s (k := .outOfSession) (by decide) (by cases why <;> decide)
    have plink := driveCapture_plink s why
    show satAdd (s.driveCapture why).counters.outOfSession (s.driveCapture why).plink.rx.length = _
    rw [count, plink]

end Closing

/-- Settles O36: SLEEP by session state; a closing session by the records that the capture rail's edge leaves. -/
theorem sleepEndsTheSession : Obligations.SleepEndsTheSession := by
  refine ⟨fun s x h => ?_, fun s closing => ?_, fun why before s t ends closing => ?_⟩
  · intro back
    rw [exec_sleep h]
    refine ⟨fun awake unreleased => ?_, fun awake some => ?_, fun closing => ?_, fun outside => ?_⟩
    · rw [serveSleep_awake awake]
      exact congrArg Host.Outcome.next (if_neg (by rw [unreleased]; decide))
    · rw [serveSleep_awake awake]
      exact congrArg Host.Outcome.next (if_pos some)
    · rw [serveSleep_closing closing]
    · rw [serveSleep_outside outside]
      rfl
  · rw [sessionAfter_closing closing]
    exact ⟨fun ended => if_neg (by rw [ended]; decide), fun releasing => if_pos releasing⟩
  · intro offEdge left
    obtain ⟨rails, capture, rfl⟩ := ends_cases ends
    obtain ⟨y, y_eq⟩ : ∃ y : State, y = { s with rails := rails } := ⟨_, rfl⟩
    have closing' : y.session.state = .closing := by rw [y_eq]; exact closing
    have edge : (y.rails.capture = true ∧ y.captureLevel = false) ↔ offEdge := by
      rw [← conclude_capture why before y, y_eq]
      exact and_congr_left fun _ => Eq.to_iff (congrArg (· = true) capture)
    have records : (y.driveCapture why).queue.records = if offEdge then [] else s.queue.records := by
      rw [driveCapture_records]
      by_cases off : offEdge
      · rw [if_pos off, if_pos (edge.mpr off)]
      · rw [if_neg off, if_neg fun yes => off (edge.mp yes), y_eq]
    have has : (y.driveCapture why).queue.has .releasing = left.queue.has .releasing := by
      unfold ShotQueue.has
      rw [records]
    rw [← y_eq]
    refine ⟨fun ⟨stays, releasing⟩ => ?_, fun ended => ?_⟩
    · have still : (y.driveCapture why).queue.has .releasing = true := by
        rw [has]
        unfold ShotQueue.has at releasing ⊢
        simpa only [left, if_neg stays] using releasing
      have same := conclude_closing_stays why before closing' still
      rw [y_eq] at same ⊢
      exact same
    · have unreleased : (y.driveCapture why).queue.has .releasing = false := by
        rw [has]
        unfold ShotQueue.has at ended ⊢
        obtain off | free := ended
        · simp only [left, if_pos off, List.any_nil]
        · by_cases off : offEdge
          · simp only [left, if_pos off, List.any_nil]
          · simpa only [left, if_neg off] using free
      obtain ⟨session, plink, store, count⟩ := conclude_closing_ends why before closing' unreleased
      refine ⟨session.trans (endSession_session_congr ?_ ?_ records ?_ ?_ ?_ ?_), ?_, ?_, ?_⟩
      · rw [driveCapture_time, y_eq]
      · rw [driveCapture_session, y_eq]
      · rw [driveCapture_settings, y_eq]
      · rw [driveCapture_meas, y_eq]
      · rw [driveCapture_store, y_eq]
      · rw [driveCapture_pins, y_eq]
      · rw [plink, y_eq]
      · rw [store, y_eq]
      · rw [count, y_eq]

end Sys2Proof.Machine
end

section
/-! PROOF. Recorder sessions (06): CLAIM and WAIVE, the session's timeouts, and requests outside a session. -/

namespace Sys2Proof.Machine

/-! ### CLAIM and WAIVE (06 R113 to R115) -/

section Reply
variable {x : State} {tag : Byte}

theorem claim_stale (other : ¬ x.answersOffer tag = true) : x.claim tag = x.answerTag 0x03 .stale tag := if_neg other

theorem waive_stale (other : ¬ x.answersOffer tag = true) : x.waive tag = x.answerTag 0x04 .stale tag := if_neg other

theorem claim_taken (taken : x.answersOffer tag = true) : x.claim tag = State.settle .protection x
    { ((x.answerTag 0x03 .ok tag).acceptReply.sendS (releasePacket tag)) with
      queue := { x.queue.alter tag (fun q => { q with state := .releasing }) with
        deliveryTimer := Timer.startSeconds x.settings.deliveryTimeout } } := if_pos taken

theorem waive_taken (taken : x.answersOffer tag = true) : x.waive tag = State.settle .protection x
    { ((x.answerTag 0x04 .ok tag).acceptReply.sendS (dropPacket tag)).count .waived with
      queue := { x.queue with records := x.queue.records.filter (fun q => decide (q.tag ≠ tag)) } } :=
  (if_pos taken).trans (by rw [remove_records])

end Reply

/-- Settles O37, by whether the reply answers the offer. -/
theorem claimAndWaiveAnswerTheOffer : Obligations.ClaimAndWaiveAnswerTheOffer := by
  intro tag s x taken ans replied
  have taken_iff : x.answersOffer tag = true ↔ taken := answersOffer_iff tag x
  have claimed (h : Served (claimPacket tag) 2 s x) : exec (.claim tag) s = .next (x.claim tag) :=
    exec_served (c := .claim tag) rfl nofun nofun h
  have waived (h : Served (waivePacket tag) 2 s x) : exec (.waive tag) s = .next (x.waive tag) :=
    exec_served (c := .waive tag) rfl nofun nofun h
  refine ⟨fun h => ⟨fun yes => ?_, fun no => ?_⟩, fun h => ⟨fun yes => ?_, fun no => ?_⟩⟩
  · exact (claimed h).trans (congrArg Host.Outcome.next (claim_taken (taken_iff.mpr yes)))
  · exact (claimed h).trans
      (congrArg Host.Outcome.next (claim_stale fun yes => no (taken_iff.mp yes)))
  · exact (waived h).trans (congrArg Host.Outcome.next (waive_taken (taken_iff.mpr yes)))
  · exact (waived h).trans
      (congrArg Host.Outcome.next (waive_stale fun yes => no (taken_iff.mp yes)))

/-! ### The session's timeouts (06 R111, R116, R121, R123) -/

theorem moveAll_moveAll (q : ShotQueue) {a b c : RecState} (apart : c ≠ b) : (q.moveAll a c).moveAll b c = { q with
    records := q.records.map (fun r => if r.state = a ∨ r.state = b then { r with state := c } else r) } := by
  simp only [ShotQueue.moveAll, List.map_map]
  congr 1
  refine List.map_congr_left fun r _ => ?_
  by_cases first : r.state = a
  · simp [first, apart]
  · by_cases second : r.state = b
    · have other : b ≠ a := fun same => first (second.trans same)
      simp [second, other]
    · simp [first, second]

/-- A forced sleep, with both moves of records as one (06 R121). -/
theorem forceSleep_eq (y : State) : y.forceSleep = State.endSession { y with
    queue := { y.queue with
      records := y.queue.records.map (fun q : ShotRecord =>
        if q.state = .offered ∨ q.state = .releasing then { q with state := .held } else q)
      deliveryTimer := .idle }
    counters := y.counters.put .forcedSleeps (satInc y.counters.forcedSleeps)
    flags := { y.flags with forcedSleep := true } } := by
  unfold State.forceSleep
  rw [moveAll_moveAll _ (by decide)]
  rfl

/-- Settles O38: each expiry is its guard's case. -/
theorem sessionTimeouts : Obligations.SessionTimeouts := by
  unfold Obligations.SessionTimeouts
  intro asleep s run
  refine ⟨fun due waking => congrArg Host.Outcome.next (if_pos ⟨run, due, waking⟩), fun due inside => ?_,
    fun due awake offered => ?_, fun due off => congrArg Host.Outcome.next (if_pos ⟨run, due, off⟩)⟩
  · refine congrArg Host.Outcome.next ((if_pos ⟨run, due, (inSession_iff s).mpr inside⟩).trans ?_)
    rw [forceSleep_eq]
  · intro back
    have expired : exec .offerTimeout s = .next s.offerTimedOut :=
      congrArg Host.Outcome.next (if_pos ⟨run, due, awake, offered⟩)
    have timedOut : s.offerTimedOut = State.settle .protection s (if 2 ≤ s.session.timeouts + 1 then back.forceSleep else back) :=
      rfl
    rw [expired, timedOut]
    refine ⟨fun first => ?_, fun again => ?_⟩
    · rw [if_neg (by omega)]
    · rw [if_pos (by omega), forceSleep_eq]

/-! ### Outside a session (06 R117) -/

/-- Settles O39: no place is needed, and the request is counted. -/
theorem requestsOutOfSessionAreDiscarded : Obligations.RequestsOutOfSessionAreDiscarded := by
  refine ⟨fun c p s x carries noReady noSleep h outside => ?_, fun s x h off => ?_⟩
  · have out : x.inSession = false := by
      rw [Bool.eq_false_iff, ne_eq, inSession_iff]
      obtain state | state := outside <;> simp [state]
    have free : admits .p c s = true := by
      rw [← admits_handed h]
      unfold admits
      split <;> simp_all
    rw [exec_handed carries h free, taking_outOfSession noReady noSleep out]
    rfl
  · have free : x.readyCondition = true := by rw [State.readyCondition, off]
    rw [exec_ready h free, State.serveReady, off]
    rfl

end Sys2Proof.Machine
end

section
/-! PROOF. Settings (10 R182): the stages of a SET and the items with an effect of their own. -/

namespace Sys2Proof.Machine

/-! ### The stages of a SET -/

/-- Every command that a SET packet carries is served as a SET. -/
theorem exec_set {c : Instr} {code : Byte} {v : Word32} {s x : State} (request : setRequest c = some (code, v))
    (h : Served (setPacket code v) 1 s x) : exec c s = .next (x.serveSet code v) := by
  cases c <;> cases request
  case setClock.refl => exact exec_served (c := .setClock v) rfl nofun nofun h
  case setDayOffset.refl => exact exec_served (c := .setDayOffset v) rfl nofun nofun h
  case setCapacity.refl => exact exec_served (c := .setCapacity v) rfl nofun nofun h
  case setCaptureMode.refl => exact exec_served (c := .setCaptureMode v) rfl nofun nofun h
  case setHeaterMode.refl => exact exec_served (c := .setHeaterMode v) rfl nofun nofun h
  case setSagThreshold.refl => exact exec_served (c := .setSagThreshold v) rfl nofun nofun h
  case setSagEnable.refl => exact exec_served (c := .setSagEnable v) rfl nofun nofun h
  case setRampPosition.refl => exact exec_served (c := .setRampPosition v) rfl nofun nofun h
  case set.refl => exact exec_served (c := .set code v) rfl nofun nofun h

theorem serveSet_unknown {code : Byte} (unknown : Item.ofCode code = none) (v : Word32) (x : State) :
    x.serveSet code v = answered 0x10 .badItem x := by
  rw [State.serveSet, unknown]
  rfl

section Known
variable {code : Byte} {i : Item} {v : Word32} {x : State} (known : Item.ofCode code = some i)
include known

theorem serveSet_outOfRange (out : i.inRange v = false) : x.serveSet code v = answered 0x10 .badValue x := by
  rw [State.serveSet, known]
  exact if_pos (by rw [out]; rfl)

theorem serveSet_refused (fits : i.inRange v = true) (refused : x.refusesSet i v = true) :
    x.serveSet code v = answered 0x10 .busy x := by
  rw [State.serveSet, known]
  exact (if_neg (by rw [fits]; decide)).trans (if_pos refused)

theorem serveSet_taken (fits : i.inRange v = true) (taken : x.refusesSet i v = false) :
    x.serveSet code v = (answered 0x10 .ok x).applySet i v := by
  rw [State.serveSet, known]
  exact (if_neg (by rw [fits]; decide)).trans (if_neg (by rw [taken]; decide))

end Known

/-- The items whose SET does more than store a value, or stores none. -/
def effectItems : List Item := [.clock, .dayOffset, .capacity, .captureMode, .heaterMode, .sagEnable, .rampPosition]

theorem applySet_plain {i : Item} (plain : i ∉ effectItems) (v : Word32) (x : State) : x.applySet i v = x.putItem i v := by
  unfold State.applySet
  split
  case h_8 => rfl
  all_goals exact absurd (by decide) plain

theorem refusesSet_plain {i : Item} (plain : i ∉ effectItems) (v : Word32) (x : State) : x.refusesSet i v = false := by
  unfold State.refusesSet
  split
  case h_3 => rfl
  all_goals exact absurd (by decide) plain

/-- The names of the bits set, from bit `k` on. -/
theorem namesOfBits_div {α : Type} (b : Nat) (l : List (Nat × α)) (k : Nat) (indices : l.map (·.1) = List.range' k l.length) :
    namesOfBits (l.map (·.2)) (b / 2 ^ k) = (l.filter (fun e => b.testBit e.1)).map (·.2) := by
  induction l generalizing k with
  | nil => rfl
  | cons e rest ih =>
    rw [List.map_cons, List.length_cons, List.range'_succ, List.cons.injEq] at indices
    obtain ⟨here, later⟩ := indices
    have next := ih (k + 1) later
    have half : b / 2 ^ k / 2 = b / 2 ^ (k + 1) := by rw [Nat.div_div_eq_div_mul, pow_succ]
    rw [List.map_cons, namesOfBits, half, next, List.filter_cons, here, Nat.testBit_eq_decide_div_mod_eq]
    by_cases bit : b / 2 ^ k % 2 = 1 <;> simp [bit]

/-- Settles O41, stage by stage. -/
theorem setAnswersByStage : Obligations.SetAnswersByStage := by
  refine ⟨fun c code v s x request h => ?_, fun x v => ?_⟩
  · rw [exec_set request h]
    refine ⟨fun unknown => ?_, fun i known => ⟨fun out => ?_, fun capacity fits few => ?_, fun ramp fits running => ?_,
      fun plain fits => ?_⟩⟩
    · exact congrArg Host.Outcome.next (serveSet_unknown (ofCode_eq_none unknown) v x)
    · exact congrArg Host.Outcome.next (serveSet_outOfRange known out)
    · subst capacity
      exact congrArg Host.Outcome.next (serveSet_refused known fits (decide_eq_true few))
    · subst ramp
      exact congrArg Host.Outcome.next (serveSet_refused known fits (decide_eq_true running))
    · rw [serveSet_taken known fits (refusesSet_plain plain v x), applySet_plain plain]
      rfl
  · have one : (v = 1) = (v.toNat = 1) := propext ⟨fun h => by rw [h]; rfl, fun h => BitVec.eq_of_toNat_eq h⟩
    have flag : decide (v = 1) = decide (v.toNat = 1) := by simp only [one]
    refine ⟨rfl, rfl, rfl, rfl, rfl, rfl, rfl, rfl, rfl, rfl, rfl, ?_, ?_, rfl, ?_, rfl, ?_, rfl, rfl, ?_⟩
    · rw [flag]; rfl
    · rw [flag]; rfl
    · have names := namesOfBits_div v.toNat [(0, EdgeKind.captureOn), (1, .captureOff), (2, .recorderOn),
        (3, .recorderOff), (4, .heaterOn), (5, .heaterOff)] 0 rfl
      rw [pow_zero, Nat.div_one] at names
      exact congrArg (fun edges => ({ x with blankEdges := edges } : Settings)) names
    · simp only [one]; rfl
    · rw [flag]; rfl

end Sys2Proof.Machine
end

section
/-! PROOF. Settings (01 R5, R6, 04 R61, 07 R129, R138, 08 R157, 03 R58): the items with an effect of their own. -/

namespace Sys2Proof.Machine

/-! ### Ends of events and the outputs before them -/

theorem concludeLoads_before {a b : State} (rails : a.rails = b.rails) (s : State) :
    State.concludeLoads a s = State.concludeLoads b s := by
  simp only [State.concludeLoads, State.reportEdges, rails]

theorem conclude_before {a b : State} (rails : a.rails = b.rails) (why : SkipReason) (s : State) :
    State.conclude why a s = State.conclude why b s := concludeLoads_before rails _

/-- In a session no wake is evaluated. -/
theorem notOff_of_served {p : Packet} {n : Nat} {s x : State} (h : Served p n s x) : x.session.state ≠ .off := by
  obtain ⟨handed, inside, -⟩ := h
  rw [inSession_iff] at inside
  rw [handed_session handed]
  obtain state | state := inside <;> simp [state]

/-! ### CLOCK and DAY OFFSET -/

/-- A clock set in session: the rollover, and while RUNNING the silent entry. -/
theorem afterClockSet_inSession (before : TimeBase) {y : State} (open_ : y.session.state ≠ .off) :
    y.afterClockSet before = (y.rollover before).enterSilently := by
  unfold State.afterClockSet
  refine evaluateWake_notOff ?_
  have session : (y.rollover before).enterSilently.session.state = y.session.state := by
    rw [enterSilently_session, rollover_eq]
  rw [session]
  exact open_

theorem enterSilently_eq (y : State) : y.enterSilently = if y.sched.state = .running
    then State.entryClamp { y with sched := { y.sched with window := windowAt y.windows y.time.secondOfDay } } else y := by
  split
  case isTrue running => exact enterSilently_running running
  case isFalse stopped =>
    unfold State.enterSilently
    split
    · contradiction
    · rfl

/-- Settles O43: both items are one clock set, with the time of each. -/
theorem clockSetsReselectSilently : Obligations.ClockSetsReselectSilently := by
  intro c code v s x request h item now y
  have open_ := notOff_of_served h
  have set (time : TimeBase) : State.afterClockSet x.time { answered 0x10 .ok x with time := time } =
      (State.rollover x.time { answered 0x10 .ok x with time := time }).enterSilently := afterClockSet_inSession x.time open_
  rw [exec_set request h]
  refine congrArg Host.Outcome.next ?_
  obtain rfl | ⟨rfl, low, high⟩ := item
  · rw [serveSet_taken (i := .clock) rfl rfl rfl]
    refine (concludeLoads_before (b := x) rfl _).trans (congrArg _ ?_)
    refine (set { x.time with calendar := v, phase := 0 }).trans ?_
    rw [rollover_eq, enterSilently_eq]
    rfl
  · have fits : Item.inRange .dayOffset v = true := by simp [Item.inRange, low, high]
    rw [serveSet_taken (i := .dayOffset) rfl fits rfl]
    refine (concludeLoads_before (b := x) rfl _).trans (congrArg _ ?_)
    refine (set { x.time with dayOffset := v.toInt }).trans ?_
    rw [rollover_eq, enterSilently_eq]
    rfl

/-! ### The items that evaluate the outputs -/

theorem modeOf_ofCode {n : Nat} {m : Mode} (mode : Mode.ofCode n = some m) : modeOf n = m ∧ n ≤ 2 := by
  refine ⟨by rw [modeOf, mode]; rfl, ?_⟩
  by_contra above
  match n with
  | n + 3 => cases mode

theorem setSagEnable_trips {v : Word32} {a : State} (trips : (a.putItem .sagEnable v).tripPossible = true) :
    a.setSagEnable v = (State.concludeLoads a (a.putItem .sagEnable v).takeTrip).arbitrate := if_pos trips

theorem setSagEnable_quiet {v : Word32} {a : State} (quiet : ¬ (a.putItem .sagEnable v).tripPossible = true) :
    a.setSagEnable v = a.putItem .sagEnable v := if_neg quiet

theorem putItem_sagEnable {v : Word32} {on : Bool} (value : decide (v.toNat = 1) = on) (a : State) :
    a.putItem .sagEnable v = { a with settings := { a.settings with sagEnable := on } } := by
  rw [← value]
  rfl

/-- Settles O44, item by item. -/
theorem settingsWithEffects : Obligations.SettingsWithEffects := by
  refine ⟨fun c code v s x request h => ?_, rfl, fun n above => ?_⟩
  · intro a
    rw [exec_set request h]
    have open_ := notOff_of_served h
    refine ⟨?capacity, ?captureMode, ?heaterMode, ?sagOff, ?sagOn, ?ramp⟩
    case capacity =>
      rintro rfl least most room
      have fits : Item.inRange .capacity v = true := by simp [Item.inRange, least, most]
      have taken : x.refusesSet .capacity v = false := decide_eq_false (by omega)
      rw [serveSet_taken (i := .capacity) rfl fits taken]
      refine congrArg Host.Outcome.next ((concludeLoads_before (b := x) rfl _).trans (congrArg _ ?_))
      exact evaluateWake_notOff open_
    case captureMode =>
      rintro m rfl mode
      obtain ⟨value, most⟩ := modeOf_ofCode mode
      rw [serveSet_taken (i := .captureMode) rfl (decide_eq_true most) rfl, ← value]
      exact congrArg Host.Outcome.next (conclude_before rfl .protection _)
    case heaterMode =>
      rintro m rfl mode
      obtain ⟨value, most⟩ := modeOf_ofCode mode
      rw [serveSet_taken (i := .heaterMode) rfl (decide_eq_true most) rfl, ← value]
      exact congrArg Host.Outcome.next (concludeLoads_before rfl _)
    case sagOff =>
      rintro rfl zero
      have put := putItem_sagEnable (v := v) (decide_eq_false (by omega)) a
      rw [serveSet_taken (i := .sagEnable) rfl (decide_eq_true (by omega)) rfl]
      refine congrArg Host.Outcome.next ((setSagEnable_quiet ?_).trans put)
      rw [show answered 0x10 .ok x = a from rfl, put, tripPossible_iff]
      exact fun ⟨_, on, _⟩ => nomatch on
    case sagOn =>
      rintro rfl one e
      have put : a.putItem .sagEnable v = e := putItem_sagEnable (decide_eq_true one) a
      have trips_iff : (a.putItem .sagEnable v).tripPossible = true ↔ x.meas.tripped = true ∧ x.meas.blanking = .idle := by
        rw [put, tripPossible_iff]
        exact ⟨fun ⟨tripped, _, closed⟩ => ⟨tripped, closed⟩, fun ⟨tripped, closed⟩ => ⟨tripped, rfl, closed⟩⟩
      rw [serveSet_taken (i := .sagEnable) rfl (decide_eq_true (by omega)) rfl]
      refine ⟨fun trips => congrArg Host.Outcome.next ?_, fun quiet => congrArg Host.Outcome.next ?_⟩
      · refine (setSagEnable_trips (a := a) (trips_iff.mpr trips)).trans (congrArg State.arbitrate ?_)
        rw [put]
        exact concludeLoads_before rfl _
      · exact (setSagEnable_quiet (a := a) fun yes => quiet (trips_iff.mp yes)).trans put
    case ramp =>
      rintro rfl most stopped
      have taken : x.refusesSet .rampPosition v = false := decide_eq_false (by rw [stopped]; decide)
      rw [serveSet_taken (i := .rampPosition) rfl (decide_eq_true most) taken]
      refine congrArg Host.Outcome.next ?_
      show State.setRampPosition v (answered 0x10 .ok x) = _
      unfold State.setRampPosition
      rw [clampToLadder_nat]
      rfl
  · match n with
    | n + 3 => rfl

end Sys2Proof.Machine
end

section
/-! PROOF. Reports and answers (10 R181, R186, R189, 11 R195, R196): the bytes of packets and the counters. -/

namespace Sys2Proof.Machine

/-! ### Fields -/

/-- A flag's bit in a byte. -/
def flagBit (b : Bool) (k : Nat) : Byte := if b then BitVec.ofNat 8 (2 ^ k) else 0

theorem byteOf_toNat (b : Bool) : byteOf b.toNat = flagBit b 0 := by cases b <;> rfl

theorem flagBits_two (a b : Bool) : byteOf (a.toNat + 2 * b.toNat) = flagBit a 0 + flagBit b 1 := by
  cases a <;> cases b <;> rfl

theorem byteOf_weighted {w k : Nat} (weight : w = 2 ^ k) (b : Bool) : byteOf (w * b.toNat) = flagBit b k := by
  cases b <;> simp [byteOf, flagBit, weight]

theorem byteOf_add (m n : Nat) : byteOf (m + n) = byteOf m + byteOf n := BitVec.ofNat_add m n

/-- A byte of flags is the sum of its bits. -/
theorem flagBits_three (a b c : Bool) :
    byteOf (a.toNat + 2 * b.toNat + 4 * c.toNat) = flagBit a 0 + flagBit b 1 + flagBit c 2 := by
  rw [byteOf_add, flagBits_two, byteOf_weighted (w := 4) (k := 2) rfl c]

theorem flagBits_five (a b c d e : Bool) :
    byteOf (a.toNat + 2 * b.toNat + 4 * c.toNat + 8 * d.toNat + 16 * e.toNat) =
      flagBit a 0 + flagBit b 1 + flagBit c 2 + flagBit d 3 + flagBit e 4 := by
  rw [byteOf_add, byteOf_add, flagBits_three, byteOf_weighted (w := 8) (k := 3) rfl d, byteOf_weighted (w := 16) (k := 4) rfl e]

theorem flagBits_six (a b c d e f : Bool) :
    byteOf (a.toNat + 2 * b.toNat + 4 * c.toNat + 8 * d.toNat + 16 * e.toNat + 32 * f.toNat) =
      flagBit a 0 + flagBit b 1 + flagBit c 2 + flagBit d 3 + flagBit e 4 + flagBit f 5 := by
  rw [byteOf_add, flagBits_five, byteOf_weighted (w := 32) (k := 5) rfl f]

theorem byteOf_int (i : Int) : byteOf (i % 256).toNat = BitVec.ofInt 8 i := by
  apply BitVec.eq_of_toNat_eq
  rw [byteOf, BitVec.toNat_ofNat, BitVec.toNat_ofInt]
  omega

theorem intBE_one (i : Int) : intBE 1 i = [BitVec.ofInt 8 i] := by
  have byte := byteOf_int i
  simpa [intBE, bytesBE] using byte

theorem intBE_two (i : Int) : intBE 2 i = [BitVec.ofInt 8 (i / 256), BitVec.ofInt 8 i] := by
  have high : byteOf ((i % 65536).toNat / 256) = BitVec.ofInt 8 (i / 256) := by
    apply BitVec.eq_of_toNat_eq
    rw [byteOf, BitVec.toNat_ofNat, BitVec.toNat_ofInt]
    omega
  have low : byteOf (i % 65536).toNat = BitVec.ofInt 8 i := by
    apply BitVec.eq_of_toNat_eq
    rw [byteOf, BitVec.toNat_ofNat, BitVec.toNat_ofInt]
    omega
  rw [intBE, bytesBE_two]
  exact congrArg₂ (fun a b => [a, b]) high low

/-- Two, three and four bytes of a number, most significant first. -/
def twoBytes (n : Nat) : List Byte := [BitVec.ofNat 8 (n / 256), BitVec.ofNat 8 n]
def threeBytes (n : Nat) : List Byte := BitVec.ofNat 8 (n / 65536) :: twoBytes n
def fourBytes (n : Nat) : List Byte := BitVec.ofNat 8 (n / 16777216) :: threeBytes n

theorem bytesBE_twoBytes (n : Nat) : bytesBE 2 n = twoBytes n := bytesBE_two n
theorem bytesBE_threeBytes (n : Nat) : bytesBE 3 n = threeBytes n := bytesBE_three n
theorem bytesBE_fourBytes (n : Nat) : bytesBE 4 n = fourBytes n := bytesBE_four n
theorem word16Bytes_twoBytes (v : Word16) : word16Bytes v = twoBytes v.toNat := bytesBE_two v.toNat
theorem word32Bytes_fourBytes (v : Word32) : word32Bytes v = fourBytes v.toNat := bytesBE_four v.toNat

theorem word16Bytes_eq (v : Word16) : word16Bytes v = [BitVec.ofNat 8 (v.toNat / 256), BitVec.ofNat 8 v.toNat] :=
  bytesBE_two v.toNat

theorem word32Bytes_eq (v : Word32) : word32Bytes v = [BitVec.ofNat 8 (v.toNat / 16777216), BitVec.ofNat 8 (v.toNat / 65536),
    BitVec.ofNat 8 (v.toNat / 256), BitVec.ofNat 8 v.toNat] := bytesBE_four v.toNat

theorem optionalBytes_length {α : Type} {f : α → List Byte} {n : Nat} (each : ∀ a, (f a).length = n) (o : Option α) :
    (optionalBytes f o).length ≤ n := by
  cases o with
  | none => exact Nat.zero_le n
  | some a => exact (each a).le

/-! ### Codes as bytes -/

theorem byteOf_schedState (x : SchedState) : byteOf x.code = match x with | .stopped => 0 | .running => 1 := by
  cases x <;> rfl

theorem byteOf_tier (x : Tier) : byteOf x.code =
    match x with | .unset => 0 | .full => 1 | .normal => 2 | .lean => 3 | .critical => 4 := by
  cases x <;> rfl

theorem byteOf_pendingKind (x : PendingKind) : byteOf x.code = match x with | .scheduled => 0 | .event => 1 | .manual => 2 := by
  cases x <;> rfl

theorem byteOf_moduleState (x : ModuleState) : byteOf x.code = match x with | .unpowered => 0 | .booting => 1 | .ready => 2 := by
  cases x <;> rfl

theorem byteOf_relayState (x : RelayState) : byteOf x.code = match x with | .idle => 0 | .inProgress => 1 := by
  cases x <;> rfl

theorem byteOf_sessionState (x : SessionState) : byteOf x.code =
    match x with | .off => 0 | .waking => 1 | .awake => 2 | .closing => 3 := by
  cases x <;> rfl

theorem byteOf_mode (x : Mode) : byteOf x.code = match x with | .auto => 0 | .on => 1 | .off => 2 := by
  cases x <;> rfl

theorem byteOf_commitPoint (x : CommitPoint) : byteOf x.code = match x with | .atOnce => 0 | .nextShot => 1 | .nextWindow => 2 := by
  cases x <;> rfl

theorem byteOf_role (x : Role) : byteOf x.code = match x with | .center => 0 | .member => 1 | .event => 2 | .manual => 3 := by
  cases x <;> rfl

theorem byteOf_windowClosed (s : State) : byteOf (!s.windowClosed).toNat = flagBit (decide (s.meas.blanking ≠ .idle)) 0 := by
  rw [byteOf_toNat, State.windowClosed, decide_not]

theorem bitsOf_eq_sum {α : Type} (code : α → Nat) (members : List α) :
    bitsOf code members = (members.map (fun a => 2 ^ code a)).sum := by
  have fold : ∀ n, members.foldl (fun n a => n + 2 ^ code a) n = n + (members.map (fun a => 2 ^ code a)).sum := by
    induction members with
    | nil => intro n; rfl
    | cons a rest ih => intro n; rw [List.foldl_cons, ih, List.map_cons, List.sum_cons, Nat.add_assoc]
  rw [bitsOf, fold, Nat.zero_add]

/-! ### Counters -/

theorem satInc_toNat (v : Word16) : (satInc v).toNat = min 65535 (v.toNat + 1) := by
  have bound := v.isLt
  unfold satInc
  split
  case isTrue full => rw [full]; rfl
  case isFalse free =>
    have below : v.toNat ≠ 65535 := fun h => free (BitVec.eq_of_toNat_eq h)
    rw [BitVec.toNat_add]
    show (v.toNat + 1) % 65536 = _
    omega

theorem satAdd_toNat (v : Word16) (n : Nat) : (satAdd v n).toNat = min 65535 (v.toNat + n) := by
  rw [satAdd, BitVec.toNat_ofNat]
  omega

theorem put_value (c : Counters) (k j : Counter) (v : Word16) : (c.put k v).value j = if j = k then v else c.value j := by
  split
  case isTrue same =>
    subst same
    cases j <;> rfl
  case isFalse other => exact put_value_of_ne other

theorem counters_bytes (c : Counters) (ks : List Counter) : c.bytes ks =
    (ks.map c.value).flatMap (fun v => [BitVec.ofNat 8 (v.toNat / 256), BitVec.ofNat 8 v.toNat]) := by
  rw [Counters.bytes, List.flatMap_map]
  simp only [word16Bytes_eq]

/-! ### The parts of a report -/

theorem bank_statusBytes {α : Type} (b : Bank α) : b.statusBytes = if b.valid then
    byteOf b.rows.length :: [BitVec.ofNat 8 (b.check.toNat / 256), BitVec.ofNat 8 b.check.toNat] else [0, 0, 0] := by
  rw [Bank.statusBytes, word16Bytes_eq]

theorem bank_statusBytes_length {α : Type} (b : Bank α) : b.statusBytes.length = 3 := by
  rw [bank_statusBytes]
  split <;> rfl

theorem statusPart0_length (s : State) : s.statusPart0.payload.length ≤ 48 := by
  have window := optionalBytes_length (f := fun w => [byteOf w]) (fun _ => rfl) s.sched.window
  have slot := optionalBytes_length (n := 5) (f := fun p : PendingShot => byteOf p.kind.code :: word32Bytes p.fellDue)
    (fun _ => rfl) s.sched.slot
  have battery := optionalBytes_length (n := 2) (f := fun v => bytesBE 2 v) (fun v => by rw [bytesBE_two]; rfl) s.meas.lastBattery
  have temperature := optionalBytes_length (n := 2) (f := fun v => intBE 2 v) (fun v => by rw [intBE_two]; rfl) s.meas.lastTemperature
  have aux := optionalBytes_length (n := 2) (f := fun v => bytesBE 2 v) (fun v => by rw [bytesBE_two]; rfl) s.meas.lastAux
  simp only [State.statusPart0, List.length_append, List.length_cons, List.length_nil, word32Bytes_eq, word16Bytes_eq,
    bytesBE_two, bytesBE_three, intBE_one, intBE_two] at *
  omega

theorem statusPart1_length (s : State) : s.statusPart1.payload.length ≤ 48 := by
  have code := optionalBytes_length (f := fun c : Byte => [c]) (fun _ => rfl) s.queue.faultCode
  have kept := optionalBytes_length (f := fun c : Byte => [c]) (fun _ => rfl) s.retention.lastKeptCenter
  have band := optionalBytes_length (n := 3) (f := fun b => [byteOf b, byteOf s.bandDuty, byteOf (!s.bandForbids).toNat])
    (fun _ => rfl) s.rails.band
  simp only [State.statusPart1, List.length_append, List.length_cons, List.length_nil, word16Bytes_eq] at *
  omega

theorem statusPart2_length (s : State) : s.statusPart2.payload.length ≤ 48 := by
  have load := optionalBytes_length (n := 2) (f := fun t : Transaction => [byteOf t.table.code, byteOf t.received]) (fun _ => rfl)
    s.store.load
  have commit := optionalBytes_length (n := 2)
    (f := fun c : PendingCommit => [byteOf (bitsOf Table.code c.tables), byteOf c.point.code]) (fun _ => rfl) s.store.commit
  simp only [State.statusPart2, List.length_append, List.length_cons, List.length_nil, BankPair.statusBytes,
    bank_statusBytes_length] at *
  omega

/-- The bytes of part 0, in the order of 11 R196. -/
theorem statusPart0_payload (s : State) : s.statusPart0.payload =
    0 :: fourBytes s.time.calendar.toNat ++ twoBytes s.time.phase ++ threeBytes s.time.secondOfDay
      ++ [(match s.sched.state with | .stopped => 0 | .running => 1 : Byte)] ++ threeBytes s.sched.elapsed
      ++ twoBytes s.ramp.position ++ twoBytes s.ramp.generation.toNat ++ [BitVec.ofInt 8 s.ramp.lastCorrection]
      ++ [(match s.meas.tier with | .unset => 0 | .full => 1 | .normal => 2 | .lean => 3 | .critical => 4 : Byte)]
      ++ [flagBit s.meas.tripped 0, flagBit (decide (s.meas.blanking ≠ .idle)) 0,
          flagBit s.sched.window.isSome 0 + flagBit s.sched.slot.isSome 1 + flagBit s.meas.lastBattery.isSome 2
            + flagBit s.meas.lastTemperature.isSome 3 + flagBit s.meas.lastAux.isSome 4]
      ++ optionalBytes (fun i => [byteOf i]) s.sched.window
      ++ optionalBytes (fun x : PendingShot =>
          (match x.kind with | .scheduled => 0 | .event => 1 | .manual => 2 : Byte) :: fourBytes x.fellDue.toNat) s.sched.slot
      ++ optionalBytes twoBytes s.meas.lastBattery
      ++ optionalBytes (fun v => [BitVec.ofInt 8 (v / 256), BitVec.ofInt 8 v]) s.meas.lastTemperature
      ++ optionalBytes twoBytes s.meas.lastAux := by
  unfold State.statusPart0
  dsimp only
  rw [byteOf_windowClosed]
  simp only [word32Bytes_fourBytes, word16Bytes_twoBytes, bytesBE_twoBytes, bytesBE_threeBytes, intBE_one, intBE_two,
    byteOf_schedState, byteOf_tier, byteOf_toNat, flagBits_five, byteOf_pendingKind, List.append_assoc, List.cons_append,
    List.nil_append]

/-- The bytes of part 1, in the order of 11 R196. -/
theorem statusPart1_payload (s : State) : s.statusPart1.payload =
    1 :: [RecState.ordered, .held, .offered, .releasing].map
        (fun st => byteOf (s.queue.records.countP (fun r => decide (r.state = st))))
      ++ [(match s.queue.module with | .unpowered => 0 | .booting => 1 | .ready => 2 : Byte)]
      ++ [byteOf s.queue.failures, (match s.queue.relay with | .idle => 0 | .inProgress => 1 : Byte)]
      ++ [(match s.session.state with | .off => 0 | .waking => 1 | .awake => 2 | .closing => 3 : Byte)]
      ++ twoBytes s.session.wakesToday.toNat
      ++ [flagBit s.rails.capture 0 + flagBit s.rails.recorder 1 + flagBit s.rails.heater 2,
          byteOf s.settings.captureMode.code, byteOf s.settings.heaterMode.code,
          flagBit s.rails.moduleLatch 0 + flagBit s.bandForbids 1 + flagBit (s.queue.has .ordered) 2 + flagBit s.meas.sagLatch 3
            + flagBit s.tierBansHeat 4,
          flagBit s.rails.cycleHold 0, flagBit s.rails.moduleLatch 0 + flagBit s.meas.sagLatch 1, flagBit s.rails.phaseOn 0,
          flagBit s.flags.sag 0 + flagBit s.flags.offerTimeout 1 + flagBit s.flags.forcedSleep 2 + flagBit s.flags.noShow 3
            + flagBit s.flags.moduleRestart 4 + flagBit s.flags.badPacket 5,
          flagBit s.inputs.trig 0 + flagBit s.inputs.service 1 + flagBit s.inputs.supok 2,
          flagBit s.queue.faultCode.isSome 0 + flagBit s.retention.lastKeptCenter.isSome 1 + flagBit s.rails.band.isSome 2]
      ++ optionalBytes (fun v => [v]) s.queue.faultCode
      ++ optionalBytes (fun v => [v]) s.retention.lastKeptCenter
      ++ optionalBytes (fun i => [byteOf i, byteOf s.bandDuty, flagBit (!s.bandForbids) 0]) s.rails.band := by
  unfold State.statusPart1
  simp only [ShotQueue.number, State.overrideByte, StickyFlags.byte, InputFlags.byte, word16Bytes_twoBytes, byteOf_moduleState,
    byteOf_relayState, byteOf_sessionState, byteOf_toNat, flagBits_two, flagBits_three, flagBits_five, flagBits_six,
    List.map_cons, List.map_nil, List.append_assoc, List.cons_append, List.nil_append]

/-- A bank as a report shows it. -/
def shownBank (valid : Bool) (rows : Nat) (check : Word16) : List Byte :=
  if valid then byteOf rows :: twoBytes check.toNat else [0, 0, 0]

theorem pair_statusBytes {α : Type} (bp : BankPair α) : bp.statusBytes =
    shownBank bp.active.valid bp.active.rows.length bp.active.check ++
      shownBank bp.staged.valid bp.staged.rows.length bp.staged.check := by
  simp only [BankPair.statusBytes, Bank.statusBytes, word16Bytes_twoBytes, shownBank]

/-- The bytes of part 2, in the order of 11 R196. -/
theorem statusPart2_payload (s : State) : s.statusPart2.payload =
    2 :: shownBank s.store.window.active.valid s.store.window.active.rows.length s.store.window.active.check
      ++ shownBank s.store.window.staged.valid s.store.window.staged.rows.length s.store.window.staged.check
      ++ shownBank s.store.program.active.valid s.store.program.active.rows.length s.store.program.active.check
      ++ shownBank s.store.program.staged.valid s.store.program.staged.rows.length s.store.program.staged.check
      ++ shownBank s.store.ladder.active.valid s.store.ladder.active.rows.length s.store.ladder.active.check
      ++ shownBank s.store.ladder.staged.valid s.store.ladder.staged.rows.length s.store.ladder.staged.check
      ++ shownBank s.store.correction.active.valid s.store.correction.active.rows.length s.store.correction.active.check
      ++ shownBank s.store.correction.staged.valid s.store.correction.staged.rows.length s.store.correction.staged.check
      ++ shownBank s.store.retention.active.valid s.store.retention.active.rows.length s.store.retention.active.check
      ++ shownBank s.store.retention.staged.valid s.store.retention.staged.rows.length s.store.retention.staged.check
      ++ shownBank s.store.tier.active.valid s.store.tier.active.rows.length s.store.tier.active.check
      ++ shownBank s.store.tier.staged.valid s.store.tier.staged.rows.length s.store.tier.staged.check
      ++ shownBank s.store.thermal.active.valid s.store.thermal.active.rows.length s.store.thermal.active.check
      ++ shownBank s.store.thermal.staged.valid s.store.thermal.staged.rows.length s.store.thermal.staged.check
      ++ [flagBit s.store.load.isSome 0 + flagBit s.store.commit.isSome 1]
      ++ optionalBytes (fun tr : Transaction => [byteOf tr.table.code, byteOf tr.received]) s.store.load
      ++ optionalBytes (fun c : PendingCommit => [byteOf ((c.tables.map (fun x => 2 ^ x.code)).sum),
          (match c.point with | .atOnce => 0 | .nextShot => 1 | .nextWindow => 2 : Byte)]) s.store.commit := by
  unfold State.statusPart2
  simp only [pair_statusBytes, flagBits_two, bitsOf_eq_sum, byteOf_commitPoint, List.append_assoc, List.cons_append,
    List.nil_append]

theorem append_congr {a b c d : List Byte} (left : a = b) (right : c = d) : a ++ c = b ++ d := congrArg₂ (· ++ ·) left right

/-- Settles O46, field by field: numbers by their bytes, flags by their bits, codes by their constructors. -/
theorem querySendsFiveParts : Obligations.QuerySendsFiveParts := by
  refine ⟨fun s x h => exec_served (c := .query) rfl nofun nofun h, fun s => ⟨rfl, rfl, rfl, statusPart0_length s,
    statusPart1_length s, statusPart2_length s⟩, ?_⟩
  intro be2 be3 be4 low bit role table stamp mode
  have be2_eq : be2 = twoBytes := rfl
  have be3_eq : be3 = threeBytes := rfl
  have be4_eq : be4 = fourBytes := rfl
  have low_eq : low = byteOf := rfl
  have bit_eq : bit = flagBit := rfl
  have role_eq : role = fun r => byteOf r.code := by funext r; cases r <;> rfl
  have table_eq : table = Table.code := by funext x; cases x <;> rfl
  have stamp_eq : stamp = fun x => fourBytes x.second.toNat ++ twoBytes x.ms := rfl
  have mode_eq : mode = fun m => byteOf m.code := by funext m; cases m <;> rfl
  clear_value stamp mode role table bit low be4 be3 be2
  subst be2_eq be3_eq be4_eq low_eq bit_eq role_eq table_eq stamp_eq mode_eq
  refine ⟨fun s => ⟨?part0, ?part1, ?part2, ?counters⟩, fun kind v e known => ?answer, fun r f facts => ?offer,
    fun tag e r => ⟨?expose, rfl, rfl⟩, fun v => ⟨satInc_toNat v, satAdd_toNat v⟩, fun s k => rfl, fun c v => ?put⟩
  case part0 =>
    refine (statusPart0_payload s).trans
      (append_congr (append_congr (append_congr (append_congr (append_congr rfl ?_) ?_) ?_) ?_) ?_)
    · cases s.sched.window <;> rfl
    · cases s.sched.slot <;> rfl
    · cases s.meas.lastBattery <;> rfl
    · cases s.meas.lastTemperature <;> rfl
    · cases s.meas.lastAux <;> rfl
  case part1 =>
    refine (statusPart1_payload s).trans (append_congr (append_congr (append_congr rfl ?_) ?_) ?_)
    · cases s.queue.faultCode <;> rfl
    · cases s.retention.lastKeptCenter <;> rfl
    · cases s.rails.band <;> rfl
  case part2 =>
    intro shown st
    refine (statusPart2_payload s).trans (append_congr (append_congr rfl ?_) ?_)
    · show _ = match s.store.load with
        | some tr => [byteOf tr.table.code, byteOf tr.received]
        | none => []
      cases s.store.load <;> rfl
    · show _ = match s.store.commit with
        | some c => [byteOf ((c.tables.map (fun x => 2 ^ Table.code x)).sum),
          (match c.point with | .atOnce => 0 | .nextShot => 1 | .nextWindow => 2 : Byte)]
        | none => []
      cases s.store.commit <;> rfl
  case counters =>
    intro k
    exact ⟨congrArg (3 :: ·) (counters_bytes k _), congrArg (4 :: ·) (counters_bytes k _)⟩
  case answer =>
    have answers (a : AnswerCode) : answerPacket kind a none = ⟨0x22, [kind, byteOf a.code, 0]⟩ ∧
        answerPacket kind a (some v) = ⟨0x22, [kind, byteOf a.code, 1] ++ fourBytes v.toNat⟩ :=
      ⟨rfl, by rw [answerPacket, word32Bytes_fourBytes]⟩
    have code : byteOf e.1.code = e.2 := by
      have all : ∀ e ∈ [(AnswerCode.ok, (0 : Byte)), (.busy, 1), (.notReady, 2), (.full, 3), (.protection, 4), (.badItem, 5),
        (.badValue, 6), (.badSequence, 7), (.checkFailed, 8), (.stale, 9)], byteOf e.1.code = e.2 := by decide
      exact all e known
    rw [← code]
    exact answers e.1
  case offer =>
    have shown : r.facts.getD ⟨0, 0, 0⟩ = f := by rw [facts, Option.getD_some]
    have stamped (x : Stamp) : stampBytes x = fourBytes x.second.toNat ++ twoBytes x.ms := by
      rw [stampBytes, word32Bytes_fourBytes, bytesBE_twoBytes]
    refine congrArg (Packet.mk 0x21) ((List.append_assoc _ [byteOf r.exposure.gain] _).trans (append_congr (append_congr
      (append_congr (append_congr (append_congr (append_congr (append_congr (append_congr rfl ?number) ?presence) ?offset)
        ?indices) ?ordered) ?strobe) ?shutter) ?shown))
    case number => exact word32Bytes_fourBytes r.number
    case presence => rw [flagBits_three]
    case offset =>
      cases r.offset with
      | none => rfl
      | some o => exact intBE_one o
    case indices => cases r.indices <;> rfl
    case ordered => exact stamped r.orderedAt
    case strobe =>
      cases r.strobe with
      | none => rfl
      | some x => exact stamped x
    case shutter => exact bytesBE_fourBytes r.exposure.shutter
    case shown => rw [shown, List.singleton_append]
  case expose =>
    rw [exposePacket, bytesBE_fourBytes]
    rfl
  case put =>
    exact ⟨rfl, rfl, rfl, rfl, rfl, rfl, rfl, rfl, rfl, rfl, rfl, rfl, rfl, rfl, rfl, rfl, rfl, rfl, rfl, rfl, rfl, rfl, rfl,
      rfl, rfl, rfl, rfl, fun k j => put_value c k j v⟩

end Sys2Proof.Machine
end

section
/-! PROOF. Shooting (02 R16, R17, R29): START, STOP and SHOOT. -/

namespace Sys2Proof.Machine

/-! ### START (02 R16) -/

theorem makeCommit_start (x : State) : x.makeCommit [.nextShot, .nextWindow] = match x.store.commit with
    | some ⟨ts, .nextShot⟩ => x.swap ts
    | some ⟨ts, .nextWindow⟩ => x.swap ts
    | _ => x := by
  unfold State.makeCommit
  split
  case h_1 absent => rw [absent]
  case h_2 c found =>
    obtain ⟨ts, point⟩ := c
    rw [found]
    cases point <;> rfl

/-- RUNNING by START, by the tables that the commit leaves. -/
theorem enterRunning_eq (x : State) (points : List CommitPoint) :
    ((x.makeCommit points).answer 0x12 .ok).enterRunning = State.entryClamp { answered 0x12 .ok (x.makeCommit points) with
      sched := { x.sched with
        state := .running, elapsed := 0
        window := windowAt (x.makeCommit points).store.window.active.rows x.time.secondOfDay } } := by
  unfold State.enterRunning
  rw [enterSilently_running rfl]
  have time : (x.makeCommit points).time = x.time := by simp
  have sched := makeCommit_sched x points
  congr 1
  show ({ answered 0x12 .ok (x.makeCommit points) with sched := { (x.makeCommit points).sched with
    state := .running, elapsed := 0
    window := windowAt (x.makeCommit points).store.window.active.rows (x.makeCommit points).time.secondOfDay } } : State) = _
  rw [sched, time]

theorem serveStart_running {x : State} (running : x.sched.state = .running) : x.serveStart = answered 0x12 .ok x := by
  rw [State.serveStart, running]
  rfl

section Stopped
variable {x : State} (stopped : x.sched.state = .stopped)
include stopped

theorem serveStart_valid (valid : (x.makeCommit [.nextShot, .nextWindow]).store.allValid = true) : x.serveStart =
    State.settle .protection x
      ((x.makeCommit [.nextShot, .nextWindow]).answer 0x12 .ok).enterRunning.scheduledShotDue.present := by
  unfold State.serveStart
  simp only [stopped, valid, if_true]

theorem serveStart_invalid (invalid : (x.makeCommit [.nextShot, .nextWindow]).store.allValid = false) : x.serveStart =
    State.conclude .protection x (answered 0x12 .notReady (x.makeCommit [.nextShot, .nextWindow])) := by
  unfold State.serveStart
  simp only [stopped, invalid]
  rfl

end Stopped

/-! ### STOP (02 R17) -/

theorem serveStop_stopped {x : State} (stopped : x.sched.state = .stopped) : x.serveStop = answered 0x13 .ok x := by
  unfold State.serveStop
  simp only [stopped]
  rfl

/-- STOPPED, without a current window. -/
def State.halted (s : State) : State := { s with sched := { s.sched with state := .stopped, window := none } }

theorem serveStop_running {x : State} (running : x.sched.state = .running) : x.serveStop = State.settle .protection x
    (State.present (State.halted (if x.sched.slot.any (·.endsAtStop) then (answered 0x13 .ok x).endPending .stopped
      else answered 0x13 .ok x))) := by
  unfold State.serveStop
  simp only [running]
  rfl

theorem endsAtStop_iff (slot : Option PendingShot) :
    slot.any (·.endsAtStop) = true ↔ ∃ p, slot = some p ∧ p.kind ≠ .manual := by
  simp [Option.any_eq_true, PendingShot.endsAtStop]

/-- Settles O48, by the state in which START and STOP are taken. -/
theorem startAndStop : Obligations.StartAndStop := by
  refine ⟨fun s x h => ?_, fun s x h => ?_⟩
  · intro committed running
    have made : x.makeCommit [.nextShot, .nextWindow] = committed := makeCommit_start x
    have entered : ((x.makeCommit [.nextShot, .nextWindow]).answer 0x12 .ok).enterRunning = running := by
      rw [enterRunning_eq, made]
    have served : exec .start s = .next x.serveStart := exec_served (c := .start) rfl nofun nofun h
    rw [served]
    refine ⟨fun busy => ?_, fun stopped valid => ?_, fun stopped invalid => ?_⟩
    · rw [serveStart_running busy]
    · rw [serveStart_valid stopped (by rw [made]; exact valid), entered]
    · rw [serveStart_invalid stopped (by rw [made]; exact invalid), made]
  · intro ends
    have served : exec .stop s = .next x.serveStop := exec_served (c := .stop) rfl nofun nofun h
    rw [served]
    refine ⟨fun stopped => ?_, fun running yes => ?_, fun running no => ?_⟩
    · rw [serveStop_stopped stopped]
    · have filled : (answered 0x13 .ok x).sched.slot ≠ none := by
        obtain ⟨p, pending, -⟩ := yes
        show x.sched.slot ≠ none
        rw [pending]
        nofun
      rw [serveStop_running running, if_pos ((endsAtStop_iff _).mpr yes), present_stopped rfl, endPending_eq, if_neg filled]
      rfl
    · rw [serveStop_running running, if_neg (fun any => no ((endsAtStop_iff _).mp any)), present_stopped rfl]
      rfl

/-! ### SHOOT (02 R29) -/

section Shoot
variable {rung : Option Nat} {x : State}

theorem serveShoot_refused {a : AnswerCode} (answer : x.shootAnswer rung = a) (refused : a ≠ .ok) :
    x.serveShoot rung = answered 0x15 a x := by
  subst answer
  exact if_neg refused

theorem serveShoot_taken (answer : x.shootAnswer rung = .ok) :
    x.serveShoot rung = State.settle .protection x ((answered 0x15 .ok x).shoot rung) := by
  unfold State.serveShoot
  dsimp only
  rw [answer, if_pos rfl]
  rfl

/-- The tests of a SHOOT, in order. -/
theorem shootAnswer_eq (rung : Option Nat) (x : State) : x.shootAnswer rung =
    if ∃ r, rung = some r ∧ 1008 < r then .badValue
    else if x.store.allValid = false then .notReady
    else if x.suspended = true ∨ x.protectedNow = true then .protection
    else if x.sched.slot ≠ none then .busy
    else if x.queue.module = .ready ∧ x.settings.capacity ≤ x.queue.records.length then .full
    else .ok := by
  have top : Config.maxPosition = 1008 := rfl
  have full : x.freeSlots = 0 ↔ x.settings.capacity ≤ x.queue.records.length := Nat.sub_eq_zero_iff_le
  simp only [State.shootAnswer, top, Option.any_eq_true, decide_eq_true_iff, Bool.not_eq_true', Bool.or_eq_true, full,
    Option.isSome_iff_ne_none]

theorem shoot_ready (ready : x.queue.module = .ready) (rung : Option Nat) : x.shoot rung = x.issue (x.manualSpecs rung) := by
  rw [State.shoot, ready]

theorem shoot_notReady (off : x.queue.module ≠ .ready) (rung : Option Nat) :
    x.shoot rung = x.fillSlot ⟨.manual, x.time.calendar, rung⟩ := by
  unfold State.shoot
  split
  · contradiction
  · rfl

theorem manualSpecs_rung (r : Nat) : x.manualSpecs (some r) =
    [⟨.manual, none, min r ((x.store.ladder.active.rows.length - 1) * 16), none⟩] := by
  have clamp := clampToLadder_nat x.ladder r
  exact congrArg (fun q => [(⟨.manual, none, q, none⟩ : ShotSpec)]) clamp

end Shoot

/-- Settles O49, test by test. -/
theorem shootAnswersByFirstTest : Obligations.ShootAnswersByFirstTest := by
  intro rung s x h bad notReady forbidden busy full top q
  have served : exec (.shoot rung) s = .next (x.serveShoot (rung.map (·.toNat))) :=
    exec_served (c := .shoot rung) rfl nofun nofun h
  have bad_iff : (∃ r, rung.map (·.toNat) = some r ∧ 1008 < r) ↔ bad := by
    cases rung <;> simp [bad]
  have forbidden_iff : (x.suspended = true ∨ x.protectedNow = true) ↔ forbidden := by rw [protectedNow_iff]
  have answer := shootAnswer_eq (rung.map (·.toNat)) x
  rw [served]
  refine ⟨fun b => ?_, fun b n => ?_, fun b n f => ?_, fun b n f y => ?_, fun b n f y u => ?_, fun b n f y u ready => ?_,
    fun b n f y off => ?_⟩
  · rw [if_pos (bad_iff.mpr b)] at answer
    rw [serveShoot_refused answer (by decide)]
  · rw [if_neg (bad_iff.not.mpr b), if_pos n] at answer
    rw [serveShoot_refused answer (by decide)]
  · rw [if_neg (bad_iff.not.mpr b), if_neg n, if_pos (forbidden_iff.mpr f)] at answer
    rw [serveShoot_refused answer (by decide)]
  · rw [if_neg (bad_iff.not.mpr b), if_neg n, if_neg (forbidden_iff.not.mpr f), if_pos y] at answer
    rw [serveShoot_refused answer (by decide)]
  · rw [if_neg (bad_iff.not.mpr b), if_neg n, if_neg (forbidden_iff.not.mpr f), if_neg y, if_pos u] at answer
    rw [serveShoot_refused answer (by decide)]
  · rw [if_neg (bad_iff.not.mpr b), if_neg n, if_neg (forbidden_iff.not.mpr f), if_neg y, if_neg u] at answer
    rw [serveShoot_taken answer, shoot_ready (x := answered 0x15 .ok x) ready]
    cases rung with
    | none => rfl
    | some r => rw [Option.map_some, manualSpecs_rung]; rfl
  · have u : ¬ full := fun ⟨ready, _⟩ => off ready
    rw [if_neg (bad_iff.not.mpr b), if_neg n, if_neg (forbidden_iff.not.mpr f), if_neg y, if_neg u] at answer
    rw [serveShoot_taken answer, shoot_notReady (x := answered 0x15 .ok x) off]
    rfl

end Sys2Proof.Machine
end

section
/-! PROOF. Rows (09 R169, 11 R197): what the fields of each table's row spell, and the values that fail the check. -/

namespace Sys2Proof.Machine

/-! ### Fields with their checks -/

section Guard
variable {α β : Type} {p q : Prop} [Decidable p] [Decidable q]

/-- A field that passes its check gives its value to the rest of the row. -/
theorem guard_bind (a : α) (f : α → Option β) :
    (if p then some a else none : Option α).bind f = if p then f a else none := by
  split <;> rfl

theorem guard_guard (b : Option β) : (if p then (if q then b else none) else none) = if p ∧ q then b else none := by
  by_cases hp : p <;> simp [hp]

end Guard

theorem yesNo_eq (n : Nat) : yesNo n = if n ≤ 1 then some (decide (n = 1)) else none := by
  match n with
  | 0 => rfl
  | 1 => rfl
  | n + 2 => rfl

theorem rampMode_ofCode (n : Nat) : RampMode.ofCode n =
    if n ≤ 2 then some (if n = 0 then .metered else if n = 1 then .timed else .fixed) else none := by
  match n with
  | 0 => rfl
  | 1 => rfl
  | 2 => rfl
  | n + 3 => rfl

theorem changeTest_ofCode (n : Nat) : ChangeTest.ofCode n =
    if n ≤ 2 then some (if n = 0 then .any else if n = 1 then .changed else .unchanged) else none := by
  match n with
  | 0 => rfl
  | 1 => rfl
  | 2 => rfl
  | n + 3 => rfl

theorem retentionAction_ofCode (n : Nat) : RetentionAction.ofCode n =
    if n ≤ 2 then some (if n = 0 then .keep else if n = 1 then .drop else .keepEvery) else none := by
  match n with
  | 0 => rfl
  | 1 => rfl
  | 2 => rfl
  | n + 3 => rfl

theorem stretch_ofCode (n : Nat) : Stretch.ofCode n =
    if n ≤ 4 then some (if n = 0 then .x1 else if n = 1 then .x2 else if n = 2 then .x4 else if n = 3 then .x8 else .suspend)
    else none := by
  match n with
  | 0 => rfl
  | 1 => rfl
  | 2 => rfl
  | 3 => rfl
  | 4 => rfl
  | n + 5 => rfl

/-- A set of names is a byte that is not 0 and sets no bit above the last name. -/
theorem nonemptySet_named {α : Type} (names : List (Nat × α)) (indices : names.map (·.1) = List.range' 0 names.length)
    {bound : Nat} (count : 2 ^ names.length = bound) (b : Byte) : nonemptySet (names.map (·.2)) b.toNat =
    if b ≠ 0 ∧ b.toNat < bound then some ((names.filter (fun r => b.getLsbD r.1)).map (·.2)) else none := by
  have members := namesOfBits_div b.toNat names 0 indices
  rw [pow_zero, Nat.div_one] at members
  have zero : b = 0 ↔ b.toNat = 0 := ⟨fun h => by rw [h]; rfl, fun h => BitVec.eq_of_toNat_eq h⟩
  have bits : (names.filter (fun r => b.getLsbD r.1)) = names.filter (fun r => b.toNat.testBit r.1) := rfl
  rw [nonemptySet, setField, List.length_map, count, members, bits]
  by_cases empty : b.toNat = 0
  · rw [if_pos empty, if_neg fun named => named.1 (zero.mpr empty)]
  · rw [if_neg empty]
    exact if_congr ⟨fun small => ⟨fun h => empty (zero.mp h), small⟩, And.right⟩ rfl rfl

theorem signed16_eq (a b : Byte) : signed16 a b = (a ++ b).toInt := by
  have bytes : BitVec.ofNat 16 (a.toNat * 256 + b.toNat) = a ++ b := by
    apply BitVec.eq_of_toNat_eq
    have ha := a.isLt
    have hb := b.isLt
    rw [BitVec.toNat_append, BitVec.toNat_ofNat, ← Nat.shiftLeft_add_eq_or_of_lt hb, Nat.shiftLeft_eq]
    omega
  rw [signed16, bytes]

theorem byte_eq_iff (b : Byte) {n : Nat} (small : n < 256) : b = BitVec.ofNat 8 n ↔ b.toNat = n := by
  rw [← BitVec.toNat_inj, BitVec.toNat_ofNat, Nat.mod_eq_of_lt small]

/-! ### The rows -/

theorem readWindowRow_eq (a b c d e f g h i : Byte) :
    readWindowRow [a, b, c, d, e, f, g, h, i] =
      if a.toNat * 65536 + b.toNat * 256 + c.toNat ≤ 86399 ∧ 1 ≤ d.toNat * 65536 + e.toNat * 256 + f.toNat ∧
        d.toNat * 65536 + e.toNat * 256 + f.toNat ≤ 86400 ∧ g.toNat ≤ 7 ∧ h.toNat ≤ 1 ∧ i.toNat ≤ 1
      then some ⟨a.toNat * 65536 + b.toNat * 256 + c.toNat, d.toNat * 65536 + e.toNat * 256 + f.toNat, g.toNat,
        decide (h = 1), decide (i = 1)⟩ else none := by
  have one (x : Byte) : decide (x = 1) = decide (x.toNat = 1) := decide_eq_decide.mpr (byte_eq_iff x (by decide))
  simp only [readWindowRow, inBounds, yesNo_eq, natBE_three, Option.bind_eq_bind, guard_bind, guard_guard, one]
  refine if_congr ?_ rfl rfl
  simp only [Nat.zero_le, true_and, and_assoc]

theorem readProgramRow_eq (a b c d e f g h i j k l : Byte) :
    readProgramRow [a, b, c, d, e, f, g, h, i, j, k, l] =
      if a.toNat ≤ 2 ∧ c.toNat ≤ 64 ∧ 1 ≤ d.toNat ∧ d.toNat ≤ 64 ∧ e.toNat ≤ 63 ∧ f.toNat ≤ 63 ∧ 1 ≤ g.toNat ∧
        (h = 1 ∨ h = 3 ∨ h = 5) ∧ 1 ≤ i.toNat ∧ i.toNat ≤ 4 ∧ j.toNat ≤ 63 ∧ k.toNat ≤ 63 ∧ l.toNat ≤ 63
      then some ⟨if a = 0 then .metered else if a = 1 then .timed else .fixed, b.toNat, c.toNat, d.toNat, e.toNat,
        f.toNat, g.toNat, h.toNat, i.toNat, j.toNat, k.toNat, l.toNat⟩ else none := by
  have zero : (a = 0) = (a.toNat = 0) := propext (byte_eq_iff a (by decide))
  have one (x : Byte) : (x = 1) = (x.toNat = 1) := propext (byte_eq_iff x (by decide))
  have three : (h = 3) = (h.toNat = 3) := propext (byte_eq_iff h (by decide))
  have five : (h = 5) = (h.toNat = 5) := propext (byte_eq_iff h (by decide))
  have hb := b.isLt
  have hg := g.isLt
  simp only [readProgramRow, inBounds, rampMode_ofCode, Option.bind_eq_bind, Option.bind_some, Option.bind_none, guard_bind, guard_guard, zero, one, three, five]
  refine if_congr ?_ rfl rfl
  omega

theorem readRung_eq (a b c d e : Byte) : readRung [a, b, c, d, e] =
    if 1 ≤ a.toNat * 16777216 + b.toNat * 65536 + c.toNat * 256 + d.toNat ∧
      a.toNat * 16777216 + b.toNat * 65536 + c.toNat * 256 + d.toNat ≤ 240000000 ∧ e.toNat ≤ 31
    then some ⟨a.toNat * 16777216 + b.toNat * 65536 + c.toNat * 256 + d.toNat, e.toNat⟩ else none := by
  simp only [readRung, inBounds, natBE_four, Option.bind_eq_bind, guard_bind, guard_guard]
  refine if_congr ?_ rfl rfl
  simp only [Nat.zero_le, true_and, and_assoc]

theorem readCorrectionRow_eq (a b c : Byte) : readCorrectionRow [a, b, c] =
    if -255 ≤ (a ++ b).toInt ∧ (a ++ b).toInt ≤ 255 ∧ -64 ≤ c.toInt ∧ c.toInt ≤ 64
    then some ⟨(a ++ b).toInt, c.toInt⟩ else none := by
  simp only [readCorrectionRow, inBoundsInt, Option.bind_eq_bind, guard_bind, guard_guard, signed16_eq]
  exact if_congr and_assoc rfl rfl

theorem readRetentionRow_eq (a b c d e f g h : Byte) : readRetentionRow [a, b, c, d, e, f, g, h] =
    if a ≠ 0 ∧ a.toNat < 16 ∧ d ≠ 0 ∧ d.toNat < 16 ∧ e.toNat ≤ 2 ∧ 1 ≤ f.toNat ∧ g.toNat ≤ 2 ∧ 2 ≤ h.toNat
    then some ⟨([(0, Role.center), (1, .member), (2, .event), (3, .manual)].filter (fun r => a.getLsbD r.1)).map (·.2),
      b.toNat, c.toNat,
      ([(0, Tier.full), (1, .normal), (2, .lean), (3, .critical)].filter (fun r => d.getLsbD r.1)).map (·.2),
      if e = 0 then .any else if e = 1 then .changed else .unchanged, f.toNat,
      if g = 0 then .keep else if g = 1 then .drop else .keepEvery, h.toNat⟩ else none := by
  have zero (x : Byte) : (x = 0) = (x.toNat = 0) := propext (byte_eq_iff x (by decide))
  have one (x : Byte) : (x = 1) = (x.toNat = 1) := propext (byte_eq_iff x (by decide))
  have roles : nonemptySet Role.all a.toNat = _ :=
    nonemptySet_named (bound := 16) [(0, Role.center), (1, .member), (2, .event), (3, .manual)] rfl rfl a
  have tiers : nonemptySet Tier.named d.toNat = _ :=
    nonemptySet_named (bound := 16) [(0, Tier.full), (1, .normal), (2, .lean), (3, .critical)] rfl rfl d
  have hf := f.isLt
  have hh := h.isLt
  simp only [readRetentionRow, inBounds, roles, tiers, changeTest_ofCode, retentionAction_ofCode, Option.bind_eq_bind, guard_bind, guard_guard,
    ne_eq, zero, one]
  refine if_congr ?_ rfl rfl
  omega

theorem readTierRow_eq (a b c d e f g h i j k : Byte) : readTierRow [a, b, c, d, e, f, g, h, i, j, k] =
    if a.toNat * 256 + b.toNat ≤ 20000 ∧ c.toNat * 256 + d.toNat ≤ 1000 ∧ e.toNat ≤ 4 ∧ 1 ≤ f.toNat ∧ f.toNat ≤ 8 ∧
      g.toNat * 65536 + h.toNat * 256 + i.toNat ≤ 86400 ∧ k.toNat ≤ 1
    then some ⟨a.toNat * 256 + b.toNat, c.toNat * 256 + d.toNat, if e = 0 then .x1 else if e = 1 then .x2
      else if e = 2 then .x4 else if e = 3 then .x8 else .suspend, f.toNat, g.toNat * 65536 + h.toNat * 256 + i.toNat, j.toNat,
      decide (k = 1)⟩ else none := by
  have zero : (e = 0) = (e.toNat = 0) := propext (byte_eq_iff e (by decide))
  have one (x : Byte) : (x = 1) = (x.toNat = 1) := propext (byte_eq_iff x (by decide))
  have two : (e = 2) = (e.toNat = 2) := propext (byte_eq_iff e (by decide))
  have three : (e = 3) = (e.toNat = 3) := propext (byte_eq_iff e (by decide))
  simp only [readTierRow, inBounds, natBE_two, natBE_three, stretch_ofCode, yesNo_eq, Option.bind_eq_bind, guard_bind, guard_guard, zero, one, two,
    three]
  refine if_congr ?_ rfl rfl
  omega

theorem readThermalRow_eq (a b c d : Byte) : readThermalRow [a, b, c, d] =
    if -400 ≤ (a ++ b).toInt ∧ (a ++ b).toInt ≤ 850 ∧ c.toNat ≤ 16 ∧ d.toNat ≤ 1
    then some ⟨(a ++ b).toInt, c.toNat, decide (d = 1)⟩ else none := by
  have one : (d = 1) = (d.toNat = 1) := propext (byte_eq_iff d (by decide))
  simp only [readThermalRow, inBounds, inBoundsInt, signed16_eq, yesNo_eq, Option.bind_eq_bind, guard_bind, guard_guard, one]
  refine if_congr ?_ rfl rfl
  simp only [Nat.zero_le, true_and, and_assoc]

/-- A row of another length is none of its table's. -/
theorem read_otherLength (fs : List Byte) :
    (fs.length ≠ 9 → readWindowRow fs = none) ∧ (fs.length ≠ 12 → readProgramRow fs = none) ∧
    (fs.length ≠ 5 → readRung fs = none) ∧ (fs.length ≠ 3 → readCorrectionRow fs = none) ∧
    (fs.length ≠ 8 → readRetentionRow fs = none) ∧ (fs.length ≠ 11 → readTierRow fs = none) ∧
    (fs.length ≠ 4 → readThermalRow fs = none) := by
  refine ⟨fun other => ?_, fun other => ?_, fun other => ?_, fun other => ?_, fun other => ?_, fun other => ?_, fun other => ?_⟩
  · unfold readWindowRow; split <;> [exact absurd rfl other; rfl]
  · unfold readProgramRow; split <;> [exact absurd rfl other; rfl]
  · unfold readRung; split <;> [exact absurd rfl other; rfl]
  · unfold readCorrectionRow; split <;> [exact absurd rfl other; rfl]
  · unfold readRetentionRow; split <;> [exact absurd rfl other; rfl]
  · unfold readTierRow; split <;> [exact absurd rfl other; rfl]
  · unfold readThermalRow; split <;> [exact absurd rfl other; rfl]

end Sys2Proof.Machine
end

section
/-! PROOF. Table loading (09 R167 to R169, R172): OPEN and ROW. -/

namespace Sys2Proof.Machine

theorem table_ofCode_eq_none {n : Nat} (above : 7 ≤ n) : Table.ofCode n = none := List.getElem?_eq_none above

/-- A load is abandoned by emptying the staged bank of its table. -/
theorem abandon_of_load {st : TableStore} {tr : Transaction} (load : st.load = some tr) :
    st.abandon = { st.emptyStaged tr.table with load := none } := by
  rw [TableStore.abandon, load]

theorem abandon_of_none {st : TableStore} (load : st.load = none) : st.abandon = st := by
  rw [TableStore.abandon, load]

theorem byteSum_eq (bs : List Byte) : byteSum bs = BitVec.ofNat 16 ((bs.map (·.toNat)).sum) := by
  have fold : ∀ n, bs.foldl (fun n b => n + b.toNat) n = n + (bs.map (·.toNat)).sum := by
    induction bs with
    | nil => intro n; rfl
    | cons b rest ih => intro n; rw [List.foldl_cons, ih, List.map_cons, List.sum_cons, Nat.add_assoc]
  rw [byteSum, fold, Nat.zero_add]

/-! ### OPEN (09 R167) -/

section Open
variable {x : State} {code : Byte}

theorem serveOpen_loading (loading : x.store.load ≠ none) :
    x.serveOpen code = { answered 0x19 .badSequence x with store := x.store.abandon } :=
  if_pos (Option.isSome_iff_ne_none.mpr loading)

variable (free : x.store.load = none)
include free

theorem serveOpen_unknown (unknown : Table.ofCode code.toNat = none) :
    x.serveOpen code = answered 0x19 .badValue x := by
  unfold State.serveOpen
  rw [free, unknown]
  rfl

theorem serveOpen_known {t : Table} (known : Table.ofCode code.toNat = some t) : x.serveOpen code =
    if x.store.commit.any (fun c => c.tables.contains t) = true then answered 0x19 .busy x
    else { answered 0x19 .ok x with store := { x.store.emptyStaged t with load := some ⟨t, 0, 0, 0⟩ } } := by
  unfold State.serveOpen
  rw [free, known]
  rfl

end Open

theorem commit_names_iff (commit : Option PendingCommit) (t : Table) :
    commit.any (fun c => c.tables.contains t) = true ↔ ∃ c, commit = some c ∧ t ∈ c.tables := by
  simp [Option.any_eq_true]

/-! ### ROW (09 R168) -/

theorem follows_iff (tr : Transaction) (table number : Byte) : tr.follows table number = true ↔
    Table.ofCode table.toNat = some tr.table ∧ number.toNat = tr.expected ∧ number.toNat < tr.table.capacity := by
  simp [Transaction.follows, and_assoc]

section Row
variable {x : State} {table number : Byte} {fields : List Byte}

theorem serveRow_closed (closed : x.store.load = none) :
    x.serveRow table number fields = answered 0x1A .badSequence x := by
  rw [State.serveRow, closed]
  rfl

variable {tr : Transaction} (load : x.store.load = some tr)
include load

theorem serveRow_outOfSequence (out : ¬ tr.follows table number = true) : x.serveRow table number fields =
    { answered 0x1A .badSequence x with store := x.store.abandon } := by
  unfold State.serveRow
  rw [load]
  exact if_pos (by simpa using out)

theorem serveRow_bad (follows : tr.follows table number = true) (bad : x.store.storeRow tr.table fields = none) :
    x.serveRow table number fields = { answered 0x1A .badValue x with store := x.store.abandon } := by
  unfold State.serveRow
  rw [load]
  dsimp only
  rw [if_neg (by rw [follows]; decide), bad]
  rfl

theorem serveRow_stored {st : TableStore} (follows : tr.follows table number = true)
    (stored : x.store.storeRow tr.table fields = some st) : x.serveRow table number fields =
    { answered 0x1A .ok x with store := { st with load := some ⟨tr.table, tr.expected + 1, tr.received + 1,
      tr.sum + byteSum (table :: number :: fields)⟩ } } := by
  unfold State.serveRow
  rw [load]
  dsimp only
  rw [if_neg (by rw [follows]; decide), stored]
  rfl

end Row

/-- Settles O51: OPEN and ROW by their tests, the rows by the readers of their fields. -/
theorem openAndRowLoadTheStagedBank : Obligations.OpenAndRowLoadTheStagedBank := by
  refine ⟨fun code s x h => ?opened, fun table number fields s x h => ?row, fun st fs => ⟨rfl, rfl, rfl, rfl, rfl, rfl, rfl⟩,
    fun st => ⟨rfl, rfl, rfl, rfl, rfl, rfl, rfl, abandon_of_none, fun tr => abandon_of_load⟩, readWindowRow_eq,
    readProgramRow_eq, readRung_eq, readCorrectionRow_eq, readRetentionRow_eq, readTierRow_eq, readThermalRow_eq,
    read_otherLength, rfl, fun n => table_ofCode_eq_none, rfl⟩
  case opened =>
    have served : exec (.openTable code) s = .next (x.serveOpen code) :=
      exec_served (c := .openTable code) rfl nofun nofun h
    rw [served]
    refine ⟨fun loading => ?_, fun free unknown => ?_, fun t free known => ⟨fun named => ?_, fun unnamed => ?_⟩⟩
    · rw [serveOpen_loading loading]
    · rw [serveOpen_unknown free (table_ofCode_eq_none unknown)]
    · rw [serveOpen_known free known, if_pos ((commit_names_iff _ _).mpr named)]
    · rw [serveOpen_known free known, if_neg fun any => ?_]
      obtain ⟨c, commit, member⟩ := (commit_names_iff _ _).mp any
      exact unnamed c commit member
  case row =>
    have served : exec (.row table number fields) s = .next (x.serveRow table number fields) :=
      exec_served (c := .row table number fields) rfl nofun nofun h
    rw [served]
    refine ⟨fun closed => ?_, fun tr load => ?_⟩
    · rw [serveRow_closed closed]
    · intro inSequence
      have follows_iff : tr.follows table number = true ↔ inSequence := follows_iff tr table number
      refine ⟨fun out => ?_, fun follows bad => ?_, fun st follows stored => ?_⟩
      · rw [serveRow_outOfSequence load fun yes => out (follows_iff.mp yes)]
      · rw [serveRow_bad load (follows_iff.mpr follows) bad]
      · rw [serveRow_stored load (follows_iff.mpr follows) stored, byteSum_eq]

end Sys2Proof.Machine
end

section
/-! PROOF. Table loading (09 R170, R171, R173): CLOSE, COMMIT, and the checks of tables. -/

namespace Sys2Proof.Machine

/-! ### The checks of tables (09 R171) -/

section Checks
variable {α : Type}

/-- Rows relate when each does to the row after it. -/
theorem rowsRelate_iff (r : α → α → Bool) (l : List α) : rowsRelate r l = true ↔
    ∀ (i : Nat) (a b : α), l[i]? = some a → l[i + 1]? = some b → r a b = true := by
  induction l with
  | nil => exact ⟨fun _ _ _ _ here _ => (nomatch here), fun _ => rfl⟩
  | cons x rest ih =>
    cases rest with
    | nil => exact ⟨fun _ _ _ _ _ next => (nomatch next), fun _ => rfl⟩
    | cons y rest =>
      rw [rowsRelate, Bool.and_eq_true, ih]
      constructor
      · rintro ⟨first, later⟩ i a b here next
        cases i with
        | zero =>
          cases here
          cases next
          exact first
        | succ i => exact later i a b here next
      · intro all
        exact ⟨all 0 x y rfl rfl, fun i a b here next => all (i + 1) a b here next⟩

theorem getLast_any_iff {β : Type} [DecidableEq β] (f : α → β) (v : β) (l : List α) :
    l.getLast?.any (fun r => f r == v) = true ↔ l.getLast?.map f = some v := by
  cases l.getLast? <;> simp

theorem countWithin_iff (lo hi n : Nat) : countWithin lo hi n = true ↔ lo ≤ n ∧ n ≤ hi := by
  simp [countWithin]

end Checks

/-- The check of each table's staged rows. -/
theorem stagedOk_iff (st : TableStore) :
    (st.stagedOk .window = true ↔ 1 ≤ st.window.staged.rows.length ∧ st.window.staged.rows.length ≤ 16 ∧
      ∀ (i : Nat) (a b : WindowRow), st.window.staged.rows[i]? = some a → st.window.staged.rows[i + 1]? = some b →
        a.start < b.start) ∧
    (st.stagedOk .program = true ↔ 1 ≤ st.program.staged.rows.length ∧ st.program.staged.rows.length ≤ 8 ∧
      ∀ a ∈ st.program.staged.rows, a.floor ≤ a.ceiling) ∧
    (st.stagedOk .ladder = true ↔ 2 ≤ st.ladder.staged.rows.length ∧ st.ladder.staged.rows.length ≤ 64 ∧
      ∀ (i : Nat) (a b : Rung), st.ladder.staged.rows[i]? = some a → st.ladder.staged.rows[i + 1]? = some b →
        a.shutter ≤ b.shutter ∧ a.gain ≤ b.gain ∧ (a.shutter < b.shutter ∨ a.gain < b.gain)) ∧
    (st.stagedOk .correction = true ↔ 1 ≤ st.correction.staged.rows.length ∧ st.correction.staged.rows.length ≤ 16 ∧
      (∀ (i : Nat) (a b : CorrectionRow), st.correction.staged.rows[i]? = some a →
        st.correction.staged.rows[i + 1]? = some b → a.bound < b.bound) ∧
      st.correction.staged.rows.getLast?.map (·.bound) = some 255) ∧
    (st.stagedOk .retention = true ↔ 1 ≤ st.retention.staged.rows.length ∧ st.retention.staged.rows.length ≤ 16 ∧
      ∀ a ∈ st.retention.staged.rows, a.meanLow ≤ a.meanHigh) ∧
    (st.stagedOk .tier = true ↔ st.tier.staged.rows.length = 4 ∧
      (∀ (i : Nat) (a b : TierRow), st.tier.staged.rows[i]? = some a → st.tier.staged.rows[i + 1]? = some b →
        b.threshold < a.threshold) ∧
      st.tier.staged.rows.getLast?.map (·.threshold) = some 0) ∧
    (st.stagedOk .thermal = true ↔ 1 ≤ st.thermal.staged.rows.length ∧ st.thermal.staged.rows.length ≤ 8 ∧
      (∀ (i : Nat) (a b : ThermalRow), st.thermal.staged.rows[i]? = some a → st.thermal.staged.rows[i + 1]? = some b →
        a.bound < b.bound) ∧
      st.thermal.staged.rows.getLast?.map (·.bound) = some 850) := by
  simp only [TableStore.stagedOk, windowTableOk, programTableOk, ladderTableOk, correctionTableOk, retentionTableOk, tierTableOk,
    thermalTableOk, Bool.and_eq_true, Bool.or_eq_true, countWithin_iff, rowsRelate_iff, getLast_any_iff, List.all_eq_true,
    decide_eq_true_iff, beq_iff_eq, and_assoc, iff_self, and_self]

theorem allValid_iff (st : TableStore) : st.allValid = true ↔ st.window.active.valid = true ∧
    st.program.active.valid = true ∧ st.ladder.active.valid = true ∧ st.correction.active.valid = true ∧
    st.retention.active.valid = true ∧ st.tier.active.valid = true ∧ st.thermal.active.valid = true := by
  simp only [TableStore.allValid, Bool.and_eq_true, and_assoc]

theorem after_eq {α : Type} (bp : BankPair α) (tables : List Table) (t : Table) :
    bp.after (tables.contains t) = if t ∈ tables then bp.staged else bp.active := by
  by_cases named : t ∈ tables <;> simp [BankPair.after, named]

/-- A check between two banks is made when both will be VALID. -/
theorem crossCheck_iff (a b c : Bool) : (!(a && b) || c) = true ↔ (a = true → b = true → c = true) := by
  cases a <;> cases b <;> simp

theorem crossOk_iff (st : TableStore) (tables : List Table) :
    let w := if .window ∈ tables then st.window.staged else st.window.active
    let p := if .program ∈ tables then st.program.staged else st.program.active
    let l := if .ladder ∈ tables then st.ladder.staged else st.ladder.active
    (st.crossOk tables = true ↔
      (w.valid = true → p.valid = true → ∀ a ∈ w.rows, a.program < p.rows.length) ∧
      (p.valid = true → l.valid = true → ∀ a ∈ p.rows, a.ceiling < l.rows.length ∧ a.timedStart < l.rows.length ∧
        a.timedEnd < l.rows.length ∧ a.fixedRung < l.rows.length)) := by
  intro w p l
  simp only [TableStore.crossOk, after_eq, Bool.and_eq_true, crossCheck_iff, windowsFitPrograms, programsFitLadder,
    List.all_eq_true, decide_eq_true_iff, and_assoc]
  exact Iff.rfl

/-! ### CLOSE (09 R170) -/

theorem closeOk_iff (tr : Transaction) (count : Byte) (check : Word16) (x : State) : x.closeOk tr count check = true ↔
    count.toNat = tr.received ∧ check = tr.sum ∧ x.store.stagedOk tr.table = true := by
  simp [State.closeOk, and_assoc]

section Close
variable {x : State} {count : Byte} {check : Word16}

theorem serveClose_closed (closed : x.store.load = none) : x.serveClose count check = answered 0x1B .badSequence x := by
  rw [State.serveClose, closed]
  rfl

theorem serveClose_open {tr : Transaction} (load : x.store.load = some tr) : x.serveClose count check =
    if x.closeOk tr count check = true
    then { answered 0x1B .ok x with store := { x.store.sealStaged tr.table check with load := none } }
    else { answered 0x1B .checkFailed x with store := x.store.abandon } := by
  rw [State.serveClose, load]
  rfl

end Close

/-! ### COMMIT (09 R173) -/

theorem commitPoint_ofCode (n : Nat) : CommitPoint.ofCode n =
    if n ≤ 2 then some (if n = 0 then .atOnce else if n = 1 then .nextShot else .nextWindow) else none := by
  match n with
  | 0 => rfl
  | 1 => rfl
  | 2 => rfl
  | n + 3 => rfl

theorem commitOf_eq (tables point : Byte) : commitOf tables point =
    if tables ≠ 0 ∧ tables.toNat < 128 ∧ point.toNat ≤ 2 then
      some ⟨([(0, Table.window), (1, .program), (2, .ladder), (3, .correction), (4, .retention), (5, .tier),
          (6, .thermal)].filter (fun e => tables.getLsbD e.1)).map (·.2),
        if point = 0 then .atOnce else if point = 1 then .nextShot else .nextWindow⟩
    else none := by
  have zero : (point = 0) = (point.toNat = 0) := propext (byte_eq_iff point (by decide))
  have one : (point = 1) = (point.toNat = 1) := propext (byte_eq_iff point (by decide))
  have named : tableSet tables = _ := nonemptySet_named (bound := 128) [(0, Table.window), (1, .program), (2, .ladder),
    (3, .correction), (4, .retention), (5, .tier), (6, .thermal)] rfl rfl tables
  unfold commitOf
  rw [named, commitPoint_ofCode]
  simp only [zero, one]
  by_cases set : tables ≠ 0 ∧ tables.toNat < 128
  · by_cases low : point.toNat ≤ 2
    · have both : tables ≠ 0 ∧ tables.toNat < 128 ∧ point.toNat ≤ 2 := ⟨set.1, set.2, low⟩
      rw [if_pos set, if_pos low, if_pos both]
    · have notBoth : ¬ (tables ≠ 0 ∧ tables.toNat < 128 ∧ point.toNat ≤ 2) := fun ⟨_, _, below⟩ => low below
      rw [if_pos set, if_neg low, if_neg notBoth]
  · have notBoth : ¬ (tables ≠ 0 ∧ tables.toNat < 128 ∧ point.toNat ≤ 2) := fun ⟨named, below, _⟩ => set ⟨named, below⟩
    rw [if_neg set, if_neg notBoth]

/-- The tests of a COMMIT, in order. -/
theorem commitAnswer_eq (c : PendingCommit) (x : State) : x.commitAnswer c =
    if x.store.commit ≠ none then .busy
    else if x.store.load ≠ none then .badSequence
    else if ¬ ∀ t ∈ c.tables, x.store.stagedValid t = true then .notReady
    else if x.store.crossOk c.tables = false then .checkFailed
    else .ok := by
  have staged : (!c.tables.all (fun t => x.store.stagedValid t)) = true ↔ ¬ ∀ t ∈ c.tables, x.store.stagedValid t = true := by
    rw [Bool.not_eq_true', Bool.eq_false_iff, ne_eq, List.all_eq_true]
  simp only [State.commitAnswer, Option.isSome_iff_ne_none, staged, Bool.not_eq_true']

section Commit
variable {x : State} {tables point : Byte}

theorem serveCommit_unknown (unknown : commitOf tables point = none) :
    x.serveCommit tables point = answered 0x1C .badValue x := by
  rw [State.serveCommit, unknown]
  rfl

variable {c : PendingCommit} (known : commitOf tables point = some c)
include known

theorem serveCommit_refused {a : AnswerCode} (answer : x.commitAnswer c = a) (refused : a ≠ .ok) :
    x.serveCommit tables point = answered 0x1C a x := by
  subst answer
  rw [State.serveCommit, known]
  exact if_neg refused

theorem serveCommit_taken (answer : x.commitAnswer c = .ok) : x.serveCommit tables point = State.conclude .protection x
    (if c.point = .atOnce then (answered 0x1C .ok x).swap c.tables
     else { answered 0x1C .ok x with store := { x.store with commit := some c } }) := by
  have taken : (answered 0x1C .ok x).takeCommit c = if c.point = .atOnce then (answered 0x1C .ok x).swap c.tables
      else { answered 0x1C .ok x with store := { x.store with commit := some c } } := by
    unfold State.takeCommit
    cases c.point <;> rfl
  rw [State.serveCommit, known]
  dsimp only
  rw [answer, if_pos rfl, ← taken]
  rfl

end Commit

/-- Settles O52: CLOSE and COMMIT by their tests, and the checks by the rows they read. -/
theorem closeSealsAndCommitSwaps : Obligations.CloseSealsAndCommitSwaps := by
  refine ⟨fun count check s x h => ?close, fun tables point s x h => ?commit, commitOf_eq,
    fun st check => ⟨rfl, rfl, rfl, rfl, rfl, rfl, rfl⟩, fun st => ⟨rfl, allValid_iff st⟩, stagedOk_iff, crossOk_iff⟩
  case close =>
    have served : exec (.close count check) s = .next (x.serveClose count check) :=
      exec_served (c := .close count check) rfl nofun nofun h
    rw [served]
    refine ⟨fun closed => ?_, fun tr load => ?_⟩
    · rw [serveClose_closed closed]
    · intro good
      have good_iff : x.closeOk tr count check = true ↔ good := closeOk_iff tr count check x
      rw [serveClose_open load]
      exact ⟨fun yes => congrArg Host.Outcome.next (if_pos (good_iff.mpr yes)),
        fun no => congrArg Host.Outcome.next (if_neg fun yes => no (good_iff.mp yes))⟩
  case commit =>
    have served : exec (.commit tables point) s = .next (x.serveCommit tables point) :=
      exec_served (c := .commit tables point) rfl nofun nofun h
    rw [served]
    refine ⟨fun bad => ?_, fun c known => ?_⟩
    · have unknown : commitOf tables point = none := by
        rw [commitOf_eq, if_neg]
        rintro ⟨named, below, low⟩
        obtain empty | above | high := bad
        · exact named empty
        · omega
        · omega
      rw [serveCommit_unknown unknown]
    · intro staged
      have answer := commitAnswer_eq c x
      refine ⟨fun busy => ?_, fun free loading => ?_, fun free idle empty => ?_, fun free idle valid cross => ?_,
        fun free idle valid cross => ?_⟩
      · rw [if_pos busy] at answer
        rw [serveCommit_refused known answer (by decide)]
      · rw [if_neg (not_not.mpr free), if_pos loading] at answer
        rw [serveCommit_refused known answer (by decide)]
      · rw [if_neg (not_not.mpr free), if_neg (not_not.mpr idle), if_pos empty] at answer
        rw [serveCommit_refused known answer (by decide)]
      · rw [if_neg (not_not.mpr free), if_neg (not_not.mpr idle), if_neg (not_not.mpr valid), if_pos cross] at answer
        rw [serveCommit_refused known answer (by decide)]
      · rw [if_neg (not_not.mpr free), if_neg (not_not.mpr idle), if_neg (not_not.mpr valid),
          if_neg (by rw [cross]; decide)] at answer
        rw [serveCommit_taken known answer]

end Sys2Proof.Machine
end

section
/-! PROOF. Swaps (09 R174, R177, 03 R54 to R56): what the exchange of the named banks does. -/

namespace Sys2Proof.Machine

/-! ### Clamps (03 R54 to R56) -/

/-- The program that a clamp obeys: the current window's, while RUNNING. -/
def State.clampProgram (x : State) : Option ProgramRow :=
  if x.sched.state = .running then
    (x.sched.window.bind (fun i => x.store.window.active.rows[i]?)).bind (fun w => x.store.program.active.rows[w.program]?)
  else none

/-- A position clamped to the ladder and to the program. -/
def State.clampedTo (x : State) (q : Nat) : Nat :=
  let onLadder := min q ((x.store.ladder.active.rows.length - 1) * 16)
  match x.clampProgram with
  | some r => max (r.floor * 16) (min onLadder (r.ceiling * 16))
  | none => onLadder

theorem clampProgram_running {x : State} (running : x.sched.state = .running) : x.clampProgram = x.currentProgram := by
  rw [State.clampProgram, if_pos running, currentProgram_eq_bind]

theorem clampProgram_stopped {x : State} (stopped : x.sched.state = .stopped) : x.clampProgram = none := by
  rw [State.clampProgram, if_neg (by rw [stopped]; decide)]

theorem clampedPosition_eq (x : State) : x.clampedPosition = x.clampedTo x.ramp.position := by
  have ladder : clampToLadder x.ladder x.ramp.position = min x.ramp.position ((x.store.ladder.active.rows.length - 1) * 16) :=
    clampToLadder_nat x.ladder x.ramp.position
  unfold State.clampedPosition State.clampedTo
  rw [ladder]
  cases state : x.sched.state with
  | stopped => rw [clampProgram_stopped state]
  | running =>
    rw [clampProgram_running state]
    cases x.currentProgram with
    | none => rfl
    | some r =>
      have cast := clampToProgram_cast r (min x.ramp.position ((x.store.ladder.active.rows.length - 1) * 16) : Nat)
      dsimp only
      omega

theorem clampedTo_congr {a b : State} (sched : a.sched = b.sched) (store : a.store = b.store) (q : Nat) :
    a.clampedTo q = b.clampedTo q := by
  simp only [State.clampedTo, State.clampProgram, sched, store]

theorem entryClamp_cases (x : State) : x.entryClamp = if x.clampedTo x.ramp.position = x.ramp.position then x
    else { x with ramp := { x.ramp with
      position := x.clampedTo x.ramp.position, generation := x.ramp.generation + 1 } } := by
  rw [State.entryClamp, clampedPosition_eq]

/-! ### The exchange (09 R174) -/

theorem pair_swap_eq {α : Type} (bp : BankPair α) (tables : List Table) (t : Table) :
    bp.swap (tables.contains t) = if t ∈ tables then ⟨bp.staged, bp.active⟩ else bp := by
  by_cases named : t ∈ tables <;> simp [BankPair.swap, named]

theorem exchange_eq (st : TableStore) (tables : List Table) : st.exchange tables = { st with
    window := if .window ∈ tables then ⟨st.window.staged, st.window.active⟩ else st.window
    program := if .program ∈ tables then ⟨st.program.staged, st.program.active⟩ else st.program
    ladder := if .ladder ∈ tables then ⟨st.ladder.staged, st.ladder.active⟩ else st.ladder
    correction := if .correction ∈ tables then ⟨st.correction.staged, st.correction.active⟩ else st.correction
    retention := if .retention ∈ tables then ⟨st.retention.staged, st.retention.active⟩ else st.retention
    tier := if .tier ∈ tables then ⟨st.tier.staged, st.tier.active⟩ else st.tier
    thermal := if .thermal ∈ tables then ⟨st.thermal.staged, st.thermal.active⟩ else st.thermal } := by
  simp only [TableStore.exchange, pair_swap_eq]

theorem selectedBand_eq (x : State) :
    x.selectedBand = x.meas.lastTemperature.bind (bandOf x.store.thermal.active.rows) := by
  unfold State.selectedBand
  cases x.meas.lastTemperature <;> rfl

theorem tierAfterSwap_eq (x : State) : x.tierAfterSwap =
    (x.meas.lastBattery.map (evaluateTier x.store.tier.active.rows x.meas.tier)).getD x.meas.tier := by
  unfold State.tierAfterSwap
  cases x.meas.lastBattery <;> rfl

section Exchange
variable (s : State) (tables : List Table)

theorem swap_store : (s.swap tables).store = { s.store.exchange tables with commit := none } := by
  unfold State.swap
  rw [rampAfterSwap_store]
  split <;> simp [State.exchangeTables]

theorem swap_retention : (s.swap tables).retention = if .retention ∈ tables
    then { s.retention with decimation := List.replicate s.store.retention.staged.rows.length 0 } else s.retention := by
  have blocks : (s.swap tables).retention = (s.exchangeTables tables).retention := by
    unfold State.swap
    rw [rampAfterSwap_retention]
    split <;> simp
  rw [blocks]
  unfold State.exchangeTables
  by_cases named : Table.retention ∈ tables <;> simp [exchange_eq, named]

theorem swap_rails : (s.swap tables).rails = { s.rails with band :=
    (if .thermal ∈ tables then s.meas.lastTemperature.bind (bandOf s.store.thermal.staged.rows) else s.rails.band) } := by
  have blocks : (s.swap tables).rails = (s.exchangeTables tables).rails := by
    unfold State.swap
    rw [rampAfterSwap_rails]
    split <;> simp
  rw [blocks]
  unfold State.exchangeTables
  by_cases named : Table.thermal ∈ tables
  · simp [selectedBand_eq, exchange_eq, named]
  · simp [named]

theorem swap_meas : (s.swap tables).meas = { s.meas with tier :=
    (if .tier ∈ tables then (s.meas.lastBattery.map (evaluateTier s.store.tier.staged.rows s.meas.tier)).getD s.meas.tier
    else s.meas.tier) } := by
  have blocks : (s.swap tables).meas = (s.exchangeTables tables).meas := by
    unfold State.swap
    rw [rampAfterSwap_meas]
    split <;> simp
  rw [blocks]
  unfold State.exchangeTables
  by_cases named : Table.tier ∈ tables
  · simp [tierAfterSwap_eq, exchange_eq, named]
  · simp [named]

/-- The Scheduler after a swap: the window is selected anew for WINDOW while RUNNING. -/
theorem swap_sched_window : (s.swap tables).sched = if .window ∈ tables ∧ s.sched.state = .running
    then { s.sched with window := windowAt s.store.window.staged.rows s.time.secondOfDay } else s.sched := by
  unfold State.swap
  rw [rampAfterSwap_sched]
  by_cases named : Table.window ∈ tables
  · cases state : s.sched.state with
    | running => simp [named, State.selectWindow, state, State.windows, State.exchangeTables, exchange_eq]
    | stopped => simp [named, State.selectWindow, state]
  · simp [named]

/-- The ramp after a swap, by the clamp that the named tables bring. -/
theorem swap_ramp : (s.swap tables).ramp =
    if .ladder ∈ tables ∨ .program ∈ tables then { s.ramp with
      position := (s.swap tables).clampedTo s.ramp.position, generation := s.ramp.generation + 1 }
    else if .window ∈ tables ∧ s.sched.state = .running ∧ (s.swap tables).clampedTo s.ramp.position ≠ s.ramp.position
    then { s.ramp with
      position := (s.swap tables).clampedTo s.ramp.position, generation := s.ramp.generation + 1 }
    else s.ramp := by
  obtain ⟨w, w_eq⟩ : ∃ w : State, w = if tables.contains .window = true then (s.exchangeTables tables).selectWindow
    else s.exchangeTables tables := ⟨_, rfl⟩
  have swapped : s.swap tables = w.rampAfterSwap tables := by rw [w_eq]; rfl
  have ramp : w.ramp = s.ramp := by rw [w_eq]; split <;> simp
  have state : w.sched.state = s.sched.state := by
    rw [w_eq]
    split
    · rw [selectWindow_sched, exchangeTables_sched]
    · simp
  have clamp : w.clampedTo s.ramp.position = (s.swap tables).clampedTo s.ramp.position :=
    clampedTo_congr (by rw [swapped, rampAfterSwap_sched]) (by rw [swapped, rampAfterSwap_store]) _
  rw [← clamp, swapped, State.rampAfterSwap]
  by_cases clamps : Table.ladder ∈ tables ∨ Table.program ∈ tables
  · have both : (tables.contains .ladder || tables.contains .program) = true := by simpa using clamps
    rw [if_pos clamps, if_pos both, State.swapClamp, clampedPosition_eq, ramp]
  · have neither : ¬ (tables.contains .ladder || tables.contains .program) = true := by simpa using clamps
    rw [if_neg clamps, if_neg neither]
    by_cases named : Table.window ∈ tables
    · rw [if_pos (by simpa using named), state]
      cases running : s.sched.state with
      | stopped => simp [ramp]
      | running =>
        by_cases same : w.clampedTo s.ramp.position = s.ramp.position
        · simp [entryClamp_cases, ramp, same]
        · simp [entryClamp_cases, ramp, same, named]
    · rw [if_neg (by simpa using named), if_neg fun h => named h.1, ramp]

end Exchange

theorem generation_next (g : Word16) : g + 1 ≠ g := by
  intro same
  have value := congrArg BitVec.toNat same
  have bound := g.isLt
  rw [BitVec.toNat_add] at value
  change (g.toNat + 1) % 65536 = g.toNat at value
  omega

/-- Settles O53, block by block. -/
theorem swapExchangesNamedBanks : Obligations.SwapExchangesNamedBanks := by
  unfold Obligations.SwapExchangesNamedBanks
  intro program clamped
  have clamped_eq : clamped = State.clampedTo := rfl
  clear_value clamped
  subst clamped_eq
  refine ⟨entryClamp_cases, fun tables s => ?_⟩
  intro t
  have rails : t.rails = _ := swap_rails s tables
  have meas : t.meas = _ := swap_meas s tables
  have sched : t.sched = _ := swap_sched_window s tables
  have ramp : t.ramp = _ := swap_ramp s tables
  have store : t.store = _ := swap_store s tables
  rw [exchange_eq] at store
  refine ⟨store, swap_retention s tables, fun thermal v result => ?_, fun thermal absent => ?_, ?_, ?_, fun other => ?_,
    fun tier v result => ?_, fun other => ?_, fun running window => ?_, fun other => ?_, fun clamps => ?_,
    fun noLadder noProgram => ?_, fun noLadder noProgram noWindow => ?_, fun noLadder noProgram stopped => ?_,
    fun ladder stopped => ?_, fun clamps => ?_, ?_, swap_queue s tables, swap_session s tables, swap_counters s tables,
    swap_settings s tables, swap_time s tables, swap_plink s tables, swap_slink s tables, swap_flags s tables,
    swap_inputs s tables, swap_pins s tables, swap_pending s tables⟩
  · rw [rails, if_pos thermal, result]
    rfl
  · rw [rails, if_pos thermal, absent]
    rfl
  · rw [rails]
  · rw [meas]
  · rw [rails, if_neg other]
  · rw [meas, if_pos tier, result]
    rfl
  · rw [meas]
    obtain absent | result := other
    · rw [if_neg absent]
    · rw [result]
      simp
  · rw [sched, if_pos ⟨window, running⟩]
  · rw [sched, if_neg]
    rintro ⟨window, running⟩
    obtain stopped | absent := other
    · cases running.symm.trans stopped
    · exact absent window
  · rw [ramp, if_pos clamps]
  · rw [ramp, if_neg (not_or.mpr ⟨noLadder, noProgram⟩)]
    split
    · rename_i moves
      exact ⟨fun same => absurd same (generation_next _), fun same => absurd same moves.2.2⟩
    · exact ⟨fun _ => rfl, fun _ => rfl⟩
  · rw [ramp, if_neg (not_or.mpr ⟨noLadder, noProgram⟩), if_neg fun h => noWindow h.1]
  · rw [ramp, if_neg (not_or.mpr ⟨noLadder, noProgram⟩), if_neg]
    rintro ⟨-, running, -⟩
    cases running.symm.trans stopped
  · rw [ramp, if_pos (.inl ladder)]
    have stays : t.sched.state = .stopped := by
      rw [sched, if_neg]
      · exact stopped
      · rintro ⟨-, running⟩
        cases running.symm.trans stopped
    have ladderBank : t.store.ladder.active = s.store.ladder.staged := by rw [store, if_pos ladder]
    have clamp : t.clampedTo s.ramp.position = min s.ramp.position ((t.store.ladder.active.rows.length - 1) * 16) := by
      rw [State.clampedTo, clampProgram_stopped stays]
    rw [ladderBank] at clamp
    exact clamp
  · rw [ramp]
    split
    · rfl
    · rename_i neither
      split
      · rfl
      · rename_i stays
        obtain ladder | program | ⟨window, running⟩ := clamps
        · exact absurd (.inl ladder) neither
        · exact absurd (.inr program) neither
        · by_contra moves
          exact stays ⟨window, running, fun same => moves same.symm⟩
  · rw [ramp]
    split
    · rfl
    · split <;> rfl

end Sys2Proof.Machine
end

section
/-! PROOF. Measurement, heater, tiers, bands and exposures (08, 07 R136, R137, 03 R37, R38). -/

namespace Sys2Proof.Machine

/-! ### Timeouts (08 R150, R151, R155, 07 R137) -/

theorem blankingClosed_eq (s : State) : s.blankingClosed =
    (if s.closeBlanking.tripPossible = true then State.concludeLoads s s.closeBlanking.takeTrip
      else s.closeBlanking).arbitrate := rfl

/-- Settles O54, timeout by timeout. -/
theorem measurementAndHeaterTimeouts : Obligations.MeasurementAndHeaterTimeouts := by
  intro s run
  refine ⟨fun c q converting due => ?_, fun due => ?_, fun due => ?_, fun due => congrArg Host.Outcome.next (if_pos ⟨run, due⟩),
    fun due => congrArg Host.Outcome.next (if_pos ⟨run, due⟩)⟩
  · intro volts degrees y
    have completes : exec (.conversionComplete q) s = .next (s.conversionComplete c q) := by
      refine congrArg Host.Outcome.next ((if_pos ⟨run, due⟩).trans ?_)
      rw [converting]
    have result : (s.storeResult c q).handOnResult c = y := by cases c <;> rfl
    rw [completes, State.conversionComplete, result]
    rfl
  · have expires : exec .measurePeriodExpiry s = .next s.measurePeriodExpired := congrArg Host.Outcome.next (if_pos ⟨run, due⟩)
    have merged : s.meas.requests.merge Requests.periodic = { s.meas.requests with battery := true, temperature := true } := by
      simp [Requests.merge, Requests.periodic]
    rw [expires, State.measurePeriodExpired, State.request, merged]
    rfl
  · intro closed trips
    have expires : exec .blankingWindowExpiry s = .next s.blankingClosed := congrArg Host.Outcome.next (if_pos ⟨run, due⟩)
    have trips_iff : s.closeBlanking.tripPossible = true ↔ trips := by
      rw [tripPossible_iff]
      exact ⟨fun ⟨tripped, on, _⟩ => ⟨tripped, on⟩, fun ⟨tripped, on⟩ => ⟨tripped, on, rfl⟩⟩
    rw [expires, blankingClosed_eq]
    refine ⟨fun no => ?_, fun yes => ?_⟩
    · rw [if_neg fun yes => no (trips_iff.mp yes)]
      rfl
    · rw [if_pos (trips_iff.mpr yes)]
      rfl

/-! ### Tiers and bands (08 R160, 07 R136) -/

section First
variable {α : Type} {p : α → Bool} {l : List α}

/-- The first row that passes. -/
theorem findIdx_of_first {i : Nat} {r : α} (row : l[i]? = some r) (here : p r = true)
    (before : ∀ (j : Nat) (q : α), j < i → l[j]? = some q → p q = false) : l.findIdx? p = some i := by
  obtain ⟨inside, rfl⟩ := List.getElem?_eq_some_iff.mp row
  rw [List.findIdx?_eq_some_iff_getElem]
  refine ⟨inside, here, fun j below => ?_⟩
  have earlier := before j l[j] below (List.getElem?_eq_getElem (by omega))
  simp [earlier]

theorem findIdx_none (absent : ∀ (j : Nat) (q : α), l[j]? = some q → p q = false) : l.findIdx? p = none := by
  rw [List.findIdx?_eq_none_iff]
  intro q member
  obtain ⟨j, row⟩ := List.mem_iff_getElem?.mp member
  exact absent j q row

end First

section Tiers
variable {rows : List TierRow} {v : Nat}

theorem evaluateTier_unset {i : Nat} (lowest : rows.findIdx? (fun r => decide (r.threshold ≤ v)) = some i) :
    evaluateTier rows .unset v = Tier.ofRow i := by
  simp only [evaluateTier, Tier.row, lowest]

variable {t : Tier} {c : Nat} {now : TierRow} (row : t.row = some c) (current : rows[c]? = some now)
include row current

theorem evaluateTier_falls {i : Nat} (below : v < now.threshold)
    (lowest : rows.findIdx? (fun r => decide (r.threshold ≤ v)) = some i) : evaluateTier rows t v = Tier.ofRow i := by
  simp only [evaluateTier, row, current, Option.map_some, Option.getD_some, if_pos below, lowest]

theorem evaluateTier_rises {i : Nat} (above : now.threshold ≤ v)
    (better : (rows.take c).findIdx? (fun r => decide (r.threshold + r.hysteresis ≤ v)) = some i) :
    evaluateTier rows t v = Tier.ofRow i := by
  simp only [evaluateTier, row, current, Option.map_some, Option.getD_some, if_neg (Nat.not_lt.mpr above), better]

theorem evaluateTier_stays (above : now.threshold ≤ v)
    (better : (rows.take c).findIdx? (fun r => decide (r.threshold + r.hysteresis ≤ v)) = none) :
    evaluateTier rows t v = t := by
  simp only [evaluateTier, row, current, Option.map_some, Option.getD_some, if_neg (Nat.not_lt.mpr above), better]

end Tiers

section Bands
variable {rows : List ThermalRow} {t : Int}

theorem bandOf_first {i : Nat} (first : rows.findIdx? (fun r => decide (t ≤ r.bound)) = some i) : bandOf rows t = some i := by
  rw [bandOf, first]

theorem bandOf_last (rest : rows.findIdx? (fun r => decide (t ≤ r.bound)) = none) (some_ : rows ≠ []) :
    bandOf rows t = some (rows.length - 1) := by
  rw [bandOf, rest]
  exact if_neg some_

end Bands

theorem tierRow_eq (s : State) : s.tierRow = (s.meas.tier.row).bind (fun i => s.store.tier.active.rows[i]?) := by
  unfold State.tierRow
  cases s.meas.tier.row <;> rfl

theorem bandRow_eq (s : State) : s.bandRow = s.rails.band.bind (fun i => s.store.thermal.active.rows[i]?) := by
  unfold State.bandRow
  cases s.rails.band <;> rfl

/-- Settles O55: each case is the first row that passes its test. -/
theorem tierAndBandSelection : Obligations.TierAndBandSelection := by
  refine ⟨fun rows v i r _ row reached before => ?_, fun rows v c t now named current above => ⟨fun i r below row reached before => ?_,
    fun before => ?_⟩, fun v => rfl, fun rows t i r row => ⟨fun reached before => ?_, fun above => ?_⟩, fun t => rfl, rfl, rfl,
    fun s => ⟨tierRow_eq s, fun none_ => ?_, fun r row => ?_, ?_, rfl, ?_⟩⟩
  · have lowest : rows.findIdx? (fun r => decide (r.threshold ≤ v)) = some i :=
      findIdx_of_first row (decide_eq_true reached) fun j q below found =>
        decide_eq_false (Nat.not_le.mpr (before j q below found))
    exact ⟨evaluateTier_unset lowest, fun t c now named current below => evaluateTier_falls named current below lowest⟩
  · refine evaluateTier_rises named current above (findIdx_of_first (r := r) ?_ (decide_eq_true reached) fun j q earlier found => ?_)
    · rw [List.getElem?_take_of_lt below]
      exact row
    · rw [List.getElem?_take_of_lt (by omega)] at found
      exact decide_eq_false (Nat.not_le.mpr (before j q earlier found))
  · refine evaluateTier_stays named current above (findIdx_none fun j q found => ?_)
    obtain ⟨taken, -⟩ := List.getElem?_eq_some_iff.mp found
    have earlier : j < c := by
      rw [List.length_take] at taken
      omega
    rw [List.getElem?_take_of_lt earlier] at found
    exact decide_eq_false (Nat.not_le.mpr (before j q earlier found))
  · exact bandOf_first (findIdx_of_first row (decide_eq_true reached) fun j q below found =>
      decide_eq_false (Int.not_le.mpr (before j q below found)))
  · refine bandOf_last (findIdx_none fun j q found => decide_eq_false (Int.not_le.mpr (above j q found))) ?_
    rintro rfl
    cases row
  · simp [State.stretch, State.tierBansHeat, none_]
  · simp [State.stretch, State.tierBansHeat, row]
  · rw [suspended_eq, decide_eq_true_iff]
  · intro band
    have band_eq : s.bandRow = band := bandRow_eq s
    exact ⟨fun none_ => by simp [State.bandForbids, State.bandDuty, band_eq, none_],
      fun r found => by simp [State.bandForbids, State.bandDuty, band_eq, found]⟩

/-! ### Exposures (03 R37, R38) -/

section Exposure
variable {ladder : List Rung} {q : Int}

theorem exposureAt_between {k f : Nat} {a b : Rung} (pos : clampToLadder ladder q = k * 16 + f) (sixteenth : f < 16)
    (low : ladder[k]? = some a) (high : ladder[k + 1]? = some b) : exposureAt ladder q =
    ⟨clampToLadder ladder q, a.shutter + ((b.shutter - a.shutter) * f) / 16, a.gain⟩ := by
  have rung : clampToLadder ladder q / 16 = k := by omega
  have part : clampToLadder ladder q % 16 = f := by omega
  simp only [exposureAt, rung, part, low, high]

theorem exposureAt_last {k : Nat} {a : Rung} (pos : clampToLadder ladder q = k * 16) (last : ladder[k]? = some a)
    (end_ : ladder[k + 1]? = none) : exposureAt ladder q = ⟨clampToLadder ladder q, a.shutter, a.gain⟩ := by
  have rung : clampToLadder ladder q / 16 = k := by omega
  simp only [exposureAt, rung, last, end_]

end Exposure

/-- A part of a distance in sixteenths does not pass it. -/
theorem sixteenths_le {d f : Nat} (part : f < 16) : d * f / 16 ≤ d := by
  have bound : d * f ≤ d * 16 := Nat.mul_le_mul_left d (by omega)
  omega

/-- Settles O56: the rung and the sixteenth are quotient and remainder of the clamped position. -/
theorem exposureInterpolatesTheLadder : Obligations.ExposureInterpolatesTheLadder := by
  intro ladder q some_ pos
  have rungs : 1 ≤ ladder.length := List.length_pos_iff.mpr some_
  refine ⟨?_, fun k f a b at_ part low high => ?_, fun a at_ last => ?_⟩
  · have clamp : pos = (max 0 (min q (((ladder.length - 1) * 16 : Nat) : Int))).toNat := rfl
    omega
  · have between := exposureAt_between at_ part low high
    refine ⟨between, fun rising => ?_⟩
    have short := sixteenths_le (d := b.shutter - a.shutter) part
    rw [between]
    dsimp only
    omega
  · exact exposureAt_last at_ last (List.getElem?_eq_none (by omega))

end Sys2Proof.Machine
end

section
/-! PROOF. Bytes and packets at a receiver (11 R191, R192): the check, the assembly, the judgement at the check byte. -/

namespace Sys2Proof.Machine

/-! ### The check (11 R191) -/

theorem crcShift_eq (c : Byte) : crcShift c = if c.getLsbD 7 = true then (c <<< 1) ^^^ 0x07 else c <<< 1 := by
  have top : c.msb = c.getLsbD 7 := BitVec.msb_eq_getLsbD_last c
  unfold crcShift
  rw [top]

/-! ### The state of a receiver -/

/-- The receiver of a link has taken these bytes since the sync byte, and its gap timeout has just begun. -/
def State.assembling (l : Link) (bytes : List Byte) (s : State) : State :=
  s.setPort l { s.port l with receiver := .assembling bytes, gap := .running 3 }

theorem assembling_receiver (l : Link) (bytes : List Byte) (s : State) :
    ((s.assembling l bytes).port l).receiver = .assembling bytes := by
  cases l <;> rfl

theorem assembling_assembling (l : Link) (bytes more : List Byte) (s : State) :
    (s.assembling l bytes).assembling l more = s.assembling l more := by
  cases l <;> rfl

theorem discardBad_assembling (l : Link) (bytes : List Byte) (s : State) :
    (s.assembling l bytes).discardBad l = s.discardBad l := by
  cases l <;> rfl

/-- What a judgement reads of a port is its queues. -/
theorem judgePacket_assembling (l : Link) (bytes : List Byte) (p : Packet) (check : Byte) (s : State) :
    (s.assembling l bytes).judgePacket l p check = s.judgePacket l p check := by
  unfold State.judgePacket
  rw [discardBad_assembling]
  cases l <;> rfl

theorem discardBad_eq (l : Link) (s : State) : s.discardBad l =
    { s.setPort l { s.port l with receiver := .hunting, gap := .idle } with
      counters := s.counters.put (badCounter l) (satInc (s.counters.value (badCounter l)))
      flags := { s.flags with badPacket := true } } := by
  cases l <;> rfl

/-- At the check byte a packet joins the queue, is an overrun, or is bad. -/
theorem judgePacket_eq (l : Link) (p : Packet) (check : Byte) (s : State) : s.judgePacket l p check =
    if check = p.check ∧ p.accepted l = true then State.servePort l
      (if (s.port l).rx.length < 4 then
        s.setPort l { s.port l with receiver := .hunting, gap := .idle, rx := (s.port l).rx ++ [p] }
      else { s.setPort l { s.port l with receiver := .hunting, gap := .idle } with
        counters := s.counters.put (overrunCounter l) (satInc (s.counters.value (overrunCounter l))) })
    else s.discardBad l := by
  unfold State.judgePacket
  rw [arrive_eq]
  cases l <;> rfl

/-! ### What the bytes amount to -/

theorem assemblyOf_tooLong (kind : Byte) {len : Byte} (above : 48 < len.toNat) (rest : List Byte) :
    assemblyOf (kind :: len :: rest) = .tooLong :=
  if_pos above

theorem assemblyOf_more (kind : Byte) {len : Byte} {rest : List Byte} (allowed : len.toNat ≤ 48)
    (short : rest.length ≤ len.toNat) : assemblyOf (kind :: len :: rest) = .more := by
  have within : ¬ Config.maxPayload < len.toNat := Nat.not_lt.mpr allowed
  simp [assemblyOf, within, List.drop_eq_nil_of_le short]

theorem assemblyOf_complete (kind : Byte) {len : Byte} {payload : List Byte} (check : Byte) (allowed : len.toNat ≤ 48)
    (full : payload.length = len.toNat) :
    assemblyOf (kind :: len :: (payload ++ [check])) = .complete ⟨kind, payload⟩ check := by
  have within : ¬ Config.maxPayload < len.toNat := Nat.not_lt.mpr allowed
  simp only [assemblyOf, if_neg within]
  simp [← full]

/-! ### One byte (11 R192) -/

theorem takeByte_sync {l : Link} {s : State} (hunting : (s.port l).receiver = .hunting) :
    s.takeByte l 0xC3 true = s.assembling l [] := by
  unfold State.takeByte
  rw [hunting]
  rfl

theorem takeByte_noise {l : Link} {b : Byte} {stop : Bool} {s : State} (hunting : (s.port l).receiver = .hunting)
    (noise : b ≠ 0xC3 ∨ stop = false) : s.takeByte l b stop = s := by
  have starts : ¬ (b = Config.syncByte ∧ stop = true) := by
    rintro ⟨sync, framed⟩
    exact noise.elim (· sync) (fun unframed => by simp [framed] at unframed)
  unfold State.takeByte
  rw [hunting]
  exact if_neg starts

theorem takeByte_unframed {l : Link} {bytes : List Byte} (b : Byte) {s : State}
    (taken : (s.port l).receiver = .assembling bytes) : s.takeByte l b false = s.discardBad l := by
  unfold State.takeByte
  rw [taken]
  rfl

theorem takeByte_framed {l : Link} {bytes : List Byte} (b : Byte) {s : State}
    (taken : (s.port l).receiver = .assembling bytes) : s.takeByte l b true = s.assembleByte l (bytes ++ [b]) := by
  unfold State.takeByte
  rw [taken]
  rfl

theorem assembleByte_more {l : Link} {bytes : List Byte} {s : State} (more : assemblyOf bytes = .more) :
    s.assembleByte l bytes = s.assembling l bytes := by
  unfold State.assembleByte
  rw [more]
  rfl

theorem assembleByte_tooLong {l : Link} {bytes : List Byte} {s : State} (long : assemblyOf bytes = .tooLong) :
    s.assembleByte l bytes = s.discardBad l := by
  unfold State.assembleByte
  rw [long]

theorem assembleByte_complete {l : Link} {bytes : List Byte} {p : Packet} {check : Byte} {s : State}
    (complete : assemblyOf bytes = .complete p check) : s.assembleByte l bytes = s.judgePacket l p check := by
  unfold State.assembleByte
  rw [complete]

/-- The kind byte. -/
theorem takeByte_kind {l : Link} (b : Byte) {s : State} (taken : (s.port l).receiver = .assembling []) :
    s.takeByte l b true = s.assembling l [b] :=
  (takeByte_framed b taken).trans (assembleByte_more rfl)

/-- The length byte. -/
theorem takeByte_length {l : Link} {kind len : Byte} {s : State} (taken : (s.port l).receiver = .assembling [kind])
    (allowed : len.toNat ≤ 48) : s.takeByte l len true = s.assembling l [kind, len] :=
  (takeByte_framed len taken).trans (assembleByte_more (assemblyOf_more kind allowed (Nat.zero_le _)))

theorem takeByte_tooLong {l : Link} {kind len : Byte} {s : State} (taken : (s.port l).receiver = .assembling [kind])
    (above : 48 < len.toNat) : s.takeByte l len true = s.discardBad l :=
  (takeByte_framed len taken).trans (assembleByte_tooLong (assemblyOf_tooLong kind above []))

/-- A byte of the payload. -/
theorem takeByte_payload {l : Link} {kind len : Byte} {payload : List Byte} (b : Byte) {s : State}
    (taken : (s.port l).receiver = .assembling (kind :: len :: payload)) (allowed : len.toNat ≤ 48)
    (short : payload.length < len.toNat) :
    s.takeByte l b true = s.assembling l (kind :: len :: (payload ++ [b])) := by
  rw [takeByte_framed b taken]
  exact assembleByte_more (assemblyOf_more kind allowed (by simpa using short))

/-- The check byte. -/
theorem takeByte_check {l : Link} {kind len : Byte} {payload : List Byte} (b : Byte) {s : State}
    (taken : (s.port l).receiver = .assembling (kind :: len :: payload)) (allowed : len.toNat ≤ 48)
    (full : payload.length = len.toNat) : s.takeByte l b true = s.judgePacket l ⟨kind, payload⟩ b := by
  rw [takeByte_framed b taken]
  exact assembleByte_complete (assemblyOf_complete kind b allowed full)

/-! ### A whole packet -/

theorem takeBytes_cons (l : Link) (b : Byte) (bs : List Byte) (s : State) :
    s.takeBytes l (b :: bs) = (s.takeByte l b true).takeBytes l bs := rfl

/-- The payload is collected, and the check byte has the packet judged. -/
theorem takeBytes_payload {l : Link} {kind len : Byte} (check : Byte) (s : State) (allowed : len.toNat ≤ 48)
    (more got : List Byte) (full : (got ++ more).length = len.toNat) :
    (s.assembling l (kind :: len :: got)).takeBytes l (more ++ [check]) =
      s.judgePacket l ⟨kind, got ++ more⟩ check := by
  induction more generalizing got with
  | nil =>
    rw [List.append_nil] at full ⊢
    rw [List.nil_append, takeBytes_cons, takeByte_check check (assembling_receiver l _ s) allowed full]
    exact judgePacket_assembling l _ _ check s
  | cons b more ih =>
    have short : got.length < len.toNat := by
      rw [← full]
      simp
    rw [List.cons_append, takeBytes_cons, takeByte_payload b (assembling_receiver l _ s) allowed short,
      assembling_assembling, ih (got ++ [b]) (by simpa using full), List.append_assoc, List.singleton_append]

/-- A whole packet that meets a hunting receiver is judged. -/
theorem takeBytes_packet {l : Link} (kind : Byte) {payload : List Byte} (check : Byte) {s : State}
    (hunting : (s.port l).receiver = .hunting) (short : payload.length ≤ 48) :
    s.takeBytes l (packetBytes kind payload check) = s.judgePacket l ⟨kind, payload⟩ check := by
  have length : (byteOf payload.length).toNat = payload.length := by
    simp only [byteOf, BitVec.toNat_ofNat]
    omega
  have sync : s.takeByte l Config.syncByte true = s.assembling l [] := takeByte_sync hunting
  unfold packetBytes
  rw [takeBytes_cons, sync, takeBytes_cons, takeByte_kind kind (assembling_receiver l _ s), assembling_assembling,
    takeBytes_cons, takeByte_length (assembling_receiver l _ s) (by omega), assembling_assembling]
  exact takeBytes_payload check s (by omega) payload [] (by simpa using length.symm)

/-- One more byte with its stop bit, after what the bytes before it did. -/
def byteAfter (l : Link) (o : Host.Outcome State Fault Refusal) (b : Byte) : Host.Outcome State Fault Refusal :=
  match o with
  | .next y => exec (.byteReceived l b true) y
  | stopped => stopped

theorem exec_byteReceived_run {s : State} (l : Link) (b : Byte) (stop : Bool) (run : s.time.domain = .run) :
    exec (.byteReceived l b stop) s = .next (s.takeByte l b stop) :=
  congrArg Host.Outcome.next (if_pos run)

theorem exec_byteReceived_held {s : State} (l : Link) (b : Byte) (stop : Bool) (held : s.time.domain ≠ .run) :
    exec (.byteReceived l b stop) s = .next s :=
  congrArg Host.Outcome.next (if_neg held)

theorem exec_packetReceived_run {s : State} (l : Link) (kind : Byte) (payload : List Byte) (check : Byte)
    (run : s.time.domain = .run) :
    exec (.packetReceived l kind payload check) s = .next (s.takeBytes l (packetBytes kind payload check)) :=
  congrArg Host.Outcome.next (if_pos run)

theorem exec_packetReceived_held {s : State} (l : Link) (kind : Byte) (payload : List Byte) (check : Byte)
    (held : s.time.domain ≠ .run) : exec (.packetReceived l kind payload check) s = .next s :=
  congrArg Host.Outcome.next (if_neg held)

theorem takeByte_run {s : State} (l : Link) (b : Byte) (stop : Bool) (run : s.time.domain = .run) :
    (s.takeByte l b stop).time.domain = .run :=
  keptByPorts_run.handOver.links.takeByte l b stop run run

/-- In RUN the bytes are taken one by one: no byte leaves RUN. -/
theorem foldl_byteAfter_run {s : State} (l : Link) (bs : List Byte) (run : s.time.domain = .run) :
    bs.foldl (byteAfter l) (.next s) = .next (s.takeBytes l bs) := by
  induction bs generalizing s with
  | nil => rfl
  | cons b bs ih =>
    have first : byteAfter l (.next s) b = .next (s.takeByte l b true) := exec_byteReceived_run l b true run
    rw [List.foldl_cons, first, ih (takeByte_run l b true run), takeBytes_cons]

theorem foldl_byteAfter_held {s : State} (l : Link) (bs : List Byte) (held : s.time.domain ≠ .run) :
    bs.foldl (byteAfter l) (.next s) = .next s := by
  induction bs with
  | nil => rfl
  | cons b bs ih =>
    have first : byteAfter l (.next s) b = .next s := exec_byteReceived_held l b true held
    rw [List.foldl_cons, first, ih]

/-- A whole packet is the sequence of its bytes. -/
theorem exec_packetReceived_eq (l : Link) (kind : Byte) (payload : List Byte) (check : Byte) (s : State) :
    exec (.packetReceived l kind payload check) s = (packetBytes kind payload check).foldl (byteAfter l) (.next s) := by
  by_cases run : s.time.domain = .run
  · rw [exec_packetReceived_run l kind payload check run, foldl_byteAfter_run l _ run]
  · rw [exec_packetReceived_held l kind payload check run, foldl_byteAfter_held l _ run]

end Sys2Proof.Machine
end

section
/-! PROOF. Transmit lines and the serving of receive queues (11 R193, R194). -/

namespace Sys2Proof.Machine

/-! ### Transmissions (11 R194) -/

theorem transmitted_empty {l : Link} {s : State} (empty : (s.port l).tx = []) : s.transmitted l = s := by
  unfold State.transmitted
  rw [empty]

/-- The completed transmission is that of the last OFFER on the P-link's line, and an offer stands (06 R113; log 12). -/
def OfferSent (l : Link) (p : Packet) (rest : List Packet) (s : State) : Prop :=
  l = .p ∧ p.kind = 0x21 ∧ s.queue.has .offered = true ∧ ∀ q ∈ rest, q.kind ≠ 0x21

theorem all_not_offer_iff (rest : List Packet) :
    (rest.all fun q => !decide (q.kind = offerKind)) = true ↔ ∀ q ∈ rest, q.kind ≠ 0x21 := by
  rw [List.all_eq_true]
  exact forall₂_congr fun q _ => by rw [Bool.not_eq_true', decide_eq_false_iff_not]; rfl

theorem transmitted_offer {l : Link} {p : Packet} {rest : List Packet} {s : State} (tx : (s.port l).tx = p :: rest)
    (sent : OfferSent l p rest s) : s.transmitted l =
      { s.setPort l { s.port l with tx := rest } with session := { s.session with offerSent := true } } := by
  obtain ⟨rfl, kind, offered, last⟩ := sent
  have all : (rest.all fun q => !decide (q.kind = offerKind)) = true :=
    (all_not_offer_iff rest).mpr last
  unfold State.transmitted
  rw [tx]
  exact if_pos ⟨kind, offered, all⟩

theorem transmitted_other {l : Link} {p : Packet} {rest : List Packet} {s : State} (tx : (s.port l).tx = p :: rest)
    (other : ¬ OfferSent l p rest s) : s.transmitted l = s.setPort l { s.port l with tx := rest } := by
  unfold State.transmitted
  rw [tx]
  cases l with
  | s => rfl
  | p =>
    refine if_neg ?_
    rintro ⟨kind, offered, all⟩
    exact other ⟨rfl, kind, offered, (all_not_offer_iff rest).mp all⟩

/-! ### Serving a queue (11 R193) -/

/-- A head whose condition holds is handed over by the step of its command, which takes it from the queue. -/
theorem handHead_served {l : Link} {p : Packet} {rest : List Packet} {c : Instr} {s : State} (run : s.time.domain = .run)
    (rx : (s.port l).rx = p :: rest) (named : commandOf l p = some c) (free : ¬ MustWait l c s) :
    exec c s = .next (s.handHead l) ∧ (s.handHead l).time.domain = .run ∧
      ((s.handHead l).port l).rx.length ≤ rest.length := by
  obtain ⟨carries, -⟩ := packetOf_commandOf named
  have step : exec c s = .next (s.handHead l) := by
    unfold State.handHead
    simp only [rx, named, packetStep_exec carries, exec_packet carries, stateAfter]
  have moved : s.handHead l = taking l c (s.setPort l { s.port l with rx := rest }) := by
    rw [handHead_eq run rx named, if_pos ((admits_iff carries s).mpr free)]
  have still : (s.setPort l { s.port l with rx := rest }).time.domain = .run := by simpa using run
  have fewer := taking_rx_le l c still l
  rw [setPort_rx, if_pos rfl] at fewer
  rw [← moved] at fewer
  exact ⟨step, moved ▸ taking_run l c still, fewer⟩

/-- In RUN more hand-overs than there are packets do nothing. -/
theorem handHeads_enough {l : Link} {n : Nat} {s : State} (run : s.time.domain = .run) (enough : (s.port l).rx.length ≤ n) :
    s.handHeads l n = s.servePort l := by
  induction k : (s.port l).rx.length using Nat.strong_induction_on generalizing n s with
  | _ k ih =>
  by_cases stays : HeadWaits l s
  · have same := handHead_waits run stays
    rw [handHeads_waits same, servePort_waits same]
  · obtain ⟨p, rest, c, rx, named, free⟩ : ∃ p rest c, (s.port l).rx = p :: rest ∧ commandOf l p = some c ∧
        ¬ MustWait l c s := by simpa only [HeadWaits, not_forall, exists_prop] using stays
    obtain ⟨-, still, fewer⟩ := handHead_served run rx named free
    subst k
    rw [rx, List.length_cons] at enough ih
    obtain ⟨m, rfl⟩ : ∃ m, n = m + 1 := ⟨n - 1, by omega⟩
    rw [State.handHeads, servePort_cons rx, ih _ (by omega) still (by omega) rfl, ih _ (by omega) still fewer rfl]

/-- Serving a queue hands its head over and serves what is left. -/
theorem servePort_served {l : Link} {p : Packet} {rest : List Packet} {c : Instr} {s : State} (run : s.time.domain = .run)
    (rx : (s.port l).rx = p :: rest) (named : commandOf l p = some c) (free : ¬ MustWait l c s) :
    s.servePort l = (s.handHead l).servePort l := by
  obtain ⟨-, still, fewer⟩ := handHead_served run rx named free
  rw [servePort_cons rx, handHeads_enough still fewer]

/-- A queue whose head waits is not served. -/
theorem servePort_blocked {l : Link} {p : Packet} {rest : List Packet} {c : Instr} {s : State} (run : s.time.domain = .run)
    (rx : (s.port l).rx = p :: rest) (named : commandOf l p = some c) (waits : MustWait l c s) : s.servePort l = s := by
  refine servePort_waits (handHead_waits run fun q others d head names => ?_)
  obtain ⟨rfl, -⟩ := List.cons.inj (rx.symm.trans head)
  obtain rfl : c = d := Option.some.inj (named.symm.trans names)
  exact waits

/-! ### The events of the ports -/

theorem exec_linkGapTimeout_idle {l : Link} {s : State}
    (idle : ¬ (s.time.domain = .run ∧ (s.port l).gap.due = true ∧ (s.port l).receiver ≠ .hunting)) :
    exec (.linkGapTimeout l) s = .next s :=
  congrArg Host.Outcome.next (if_neg idle)

theorem exec_linkGapTimeout_discards {l : Link} {s : State} (run : s.time.domain = .run)
    (due : (s.port l).gap.due = true) (assembling : (s.port l).receiver ≠ .hunting) :
    exec (.linkGapTimeout l) s = .next (s.discardBad l) :=
  congrArg Host.Outcome.next (if_pos ⟨run, due, assembling⟩)

theorem exec_transmissionComplete_held {s : State} (l : Link) (held : s.time.domain ≠ .run) :
    exec (.transmissionComplete l) s = .next s :=
  congrArg Host.Outcome.next (if_neg held)

theorem exec_transmissionComplete_run {s : State} (l : Link) (run : s.time.domain = .run) :
    exec (.transmissionComplete l) s = .next ((s.transmitted l).servePort l) :=
  congrArg Host.Outcome.next (if_pos run)

/-- Settles O60: byte by byte at the receivers, packet by packet at the queues. -/
theorem linkPortsReceiveAndSend : Obligations.LinkPortsReceiveAndSend := by
  unfold Obligations.LinkPortsReceiveAndSend
  refine ⟨fun p => ?check, by decide +kernel, ⟨rfl, rfl, rfl, rfl⟩, fun l s => ⟨fun held => ?held, ?bytes, fun run => ?run,
    servePort_empty, fun p rest c run rx named => ⟨servePort_blocked run rx named, fun t free step => ?served⟩⟩⟩
  case check =>
    intro shift
    have same : crcShift = shift := funext crcShift_eq
    rw [← same]
    rfl
  case held =>
    exact ⟨fun kind payload check => exec_packetReceived_held l kind payload check held,
      fun b stop => exec_byteReceived_held l b stop held, exec_linkGapTimeout_idle fun due => held due.1,
      exec_transmissionComplete_held l held⟩
  case bytes => exact fun kind payload check => exec_packetReceived_eq l kind payload check s
  case served =>
    obtain ⟨hands, -, fewer⟩ := handHead_served run rx named free
    obtain rfl : s.handHead l = t := Host.Outcome.next.inj (hands.symm.trans step)
    rw [rx, List.length_cons]
    exact ⟨Nat.lt_succ_of_le fewer, servePort_served run rx named free⟩
  case run =>
    dsimp only
    rw [← discardBad_eq]
    simp only [← judgePacket_eq, exec_byteReceived_run l _ _ run]
    refine ⟨fun kind payload check hunting short => ?packet, fun b stop hunting noise => ?noise, fun hunting => ?sync,
      fun bytes b taken => ?unframed, fun b taken => ?kind, fun kind len taken above => ?tooLong,
      fun kind len taken allowed => ?length, fun kind len b payload taken allowed => ⟨fun short => ?payload,
        fun full => ?judged⟩, fun bytes taken due => ?gap, fun idle => ?noGap, fun empty => ?empty,
      fun p rest tx => ⟨fun other => ?other, fun sent => ?sent⟩⟩
    case packet => rw [exec_packetReceived_run l kind payload check run, takeBytes_packet kind check hunting short]
    case noise => rw [takeByte_noise hunting noise]
    case sync => exact congrArg Host.Outcome.next (takeByte_sync hunting)
    case unframed => rw [takeByte_unframed b taken]
    case kind => exact congrArg Host.Outcome.next (takeByte_kind b taken)
    case tooLong => rw [takeByte_tooLong taken above]
    case length => exact congrArg Host.Outcome.next (takeByte_length taken allowed)
    case payload => exact congrArg Host.Outcome.next (takeByte_payload b taken allowed short)
    case judged => rw [takeByte_check b taken allowed full]
    case gap => exact exec_linkGapTimeout_discards run due (by rw [taken]; nofun)
    case noGap =>
      refine exec_linkGapTimeout_idle fun ⟨_, due, assembling⟩ => ?_
      obtain hunting | notDue := idle
      · exact assembling hunting
      · exact absurd (due.symm.trans notDue) (by decide)
    case empty => rw [exec_transmissionComplete_run l run, transmitted_empty empty]
    case other => rw [exec_transmissionComplete_run l run, transmitted_other tx other]
    case sent => rw [exec_transmissionComplete_run l run, transmitted_offer tx sent]

end Sys2Proof.Machine
end
